-- ==== Sys2Proof/Word.lean ====
section
/-! DEFINITION. The word types of the machine (00_scope.md rules R7, R9) and their plainest arithmetic
(00_scope.md rules R10, R11). -/

namespace Sys2Proof

/-- An 8-bit value: a register, a memory byte, an immediate, a displacement (rule R7). -/
abbrev Byte := BitVec 8

/-- A 16-bit value: a register pair, an address, a port number (rule R7). -/
abbrev Word := BitVec 16

/-- A signed 32-bit two's-complement counter (rule R9); its signed value is `BitVec.toInt`. -/
abbrev Count := BitVec 32

/-- `hi:lo`, the word with the high byte `hi` and the low byte `lo` (rule R10). -/
def Word.mk (hi lo : Byte) : Word := hi ++ lo

/-- `v[15:8]` (rule R10). -/
def Word.hi (v : Word) : Byte := v.extractLsb' 8 8

/-- `v[7:0]` (rule R10). -/
def Word.lo (v : Word) : Byte := v.extractLsb' 0 8

/-- `sext_16(v)` (rule R11). -/
def sext16 (v : Byte) : Word := v.signExtend 16

/-- A one-bit value as a byte, 0 or 1. -/
def Byte.ofBool (b : Bool) : Byte := if b then 1 else 0

end Sys2Proof
end

