-- ==== Sys2Proof/Operand.lean ====
section
/-! DEFINITION. The operand types of the instruction forms: register codes, pair codes, conditions, index halves
(30_encoding.md rules R93 to R95). -/

namespace Sys2Proof

/-- An 8-bit register code other than 6 (rule R93). Codes 4 and 5 are H and L, or the index halves where a DD/FD form
without a memory operand uses them (40_engine.md rule R165). -/
inductive Reg8 where
  | b | c | d | e | h | l | a
deriving DecidableEq, Repr

/-- The pair code `rp` of loads, 16-bit arithmetic, INC and DEC (rule R94). Under DD/FD, `hl` means IX/IY. -/
inductive Pair where
  | bc | de | hl | sp
deriving DecidableEq, Repr

/-- The pair code `rp2` of PUSH and POP (rule R94). -/
inductive StackPair where
  | bc | de | hl | af
deriving DecidableEq, Repr

/-- The condition code `cc` (rule R95). -/
inductive Cond where
  | nz | z | nc | c | po | pe | p | m
deriving DecidableEq, Repr

/-- The high or the low byte of an index register: codes 4 and 5 of rule R93 under DD/FD. -/
inductive Half where
  | high | low
deriving DecidableEq, Repr

end Sys2Proof
end

