-- ==== Sys2Proof/Syntax.lean ====
section
/-! DEFINITION. The instructions: one constructor per row of opcode_table.json (30_encoding.md rule R110), with the operands
the row's bytes hold: first the rows with operands, then the rows without, each part in the table's order (Lean's runtime
numbers at most 245 constructors that have fields). Every constructor's comment is the table's own name of it. -/

namespace Sys2Proof

/-- A Z80 instruction, one constructor per opcode-table row. -/
inductive Instr where
  -- The unprefixed table (rule R101): rows with operands
  /-- DJNZ e (R446). -/
  | djnz (e : Byte)
  /-- JR e (R443). -/
  | jr (e : Byte)
  /-- JR cc,e (cc = NZ, Z, NC, C) (R444); only the first four conditions. -/
  | jrCc (cc : Cond) (e : Byte)
  /-- LD rp,nn (R240). -/
  | ldRpNn (p : Pair) (nn : Word)
  /-- ADD HL,rp (R370). -/
  | addHlRp (p : Pair)
  /-- LD (nn),HL (R243). -/
  | ldMemNnHl (nn : Word)
  /-- LD (nn),A (R210). -/
  | ldMemNnA (nn : Word)
  /-- LD HL,(nn) (R242). -/
  | ldHlMemNn (nn : Word)
  /-- LD A,(nn) (R207). -/
  | ldAMemNn (nn : Word)
  /-- INC rp (R374). -/
  | incRp (p : Pair)
  /-- DEC rp (R375). -/
  | decRp (p : Pair)
  /-- INC r (R329). -/
  | incR (r : Reg8)
  /-- DEC r (R331). -/
  | decR (r : Reg8)
  /-- LD r,n (R201). -/
  | ldRN (r : Reg8) (n : Byte)
  /-- LD (HL),n (R204). -/
  | ldMemHlN (n : Byte)
  /-- LD r,(HL) (R202). -/
  | ldRMemHl (r : Reg8)
  /-- LD (HL),r (R203). -/
  | ldMemHlR (r : Reg8)
  /-- LD r,r' (R200). -/
  | ldRR (dst : Reg8) (src : Reg8)
  /-- ADD A,r (R321). -/
  | addAR (r : Reg8)
  /-- ADD A,n (R321). -/
  | addAN (n : Byte)
  /-- ADC A,r (R322). -/
  | adcAR (r : Reg8)
  /-- ADC A,n (R322). -/
  | adcAN (n : Byte)
  /-- SUB r (R323). -/
  | subR (r : Reg8)
  /-- SUB n (R323). -/
  | subN (n : Byte)
  /-- SBC A,r (R324). -/
  | sbcAR (r : Reg8)
  /-- SBC A,n (R324). -/
  | sbcAN (n : Byte)
  /-- AND r (R325). -/
  | andR (r : Reg8)
  /-- AND n (R325). -/
  | andN (n : Byte)
  /-- XOR r (R326). -/
  | xorR (r : Reg8)
  /-- XOR n (R326). -/
  | xorN (n : Byte)
  /-- OR r (R327). -/
  | orR (r : Reg8)
  /-- OR n (R327). -/
  | orN (n : Byte)
  /-- CP r (R328). -/
  | cpR (r : Reg8)
  /-- CP n (R328). -/
  | cpN (n : Byte)
  /-- RET cc (R450). -/
  | retCc (cc : Cond)
  /-- POP rp2 (R252). -/
  | popRp2 (p : StackPair)
  /-- JP cc,nn (R442). -/
  | jpCcNn (cc : Cond) (nn : Word)
  /-- JP nn (R441). -/
  | jpNn (nn : Word)
  /-- prefix CB: the next byte is looked up in the CB table (R170); `op` is the next byte. A row of the first table that only sends the decoder to the CB table: no decoded instruction is this row (log entry 15). -/
  | prefixCB (op : Byte)
  /-- OUT (n),A (R483). -/
  | outNA (n : Byte)
  /-- IN A,(n) (R480). -/
  | inAN (n : Byte)
  /-- CALL cc,nn (R448). -/
  | callCcNn (cc : Cond) (nn : Word)
  /-- PUSH rp2 (R250). -/
  | pushRp2 (p : StackPair)
  /-- CALL nn (R447). -/
  | callNn (nn : Word)
  /-- prefix DD: the next byte is looked up in the DD table, IX (R165); `b1 b2 b3` are the next bytes. Only sends the decoder to the DD table (log entry 15). -/
  | prefixDD (b1 : Byte) (b2 : Byte) (b3 : Byte)
  /-- prefix ED: the next byte is looked up in the ED table (R170); `b1 b2 b3` are the next bytes. Only sends the decoder to the ED table (log entry 15). -/
  | prefixED (b1 : Byte) (b2 : Byte) (b3 : Byte)
  /-- prefix FD: the next byte is looked up in the FD table, IY (R165); `b1 b2 b3` are the next bytes. Only sends the decoder to the FD table (log entry 15). -/
  | prefixFD (b1 : Byte) (b2 : Byte) (b3 : Byte)
  /-- RST p (p = 8*y) (R453); the target is `y * 8`. -/
  | rst (y : Fin 8)
  -- The CB table (rule R102): rows with operands
  /-- RLC r (R395). -/
  | rlcR (r : Reg8)
  /-- RRC r (R396). -/
  | rrcR (r : Reg8)
  /-- RL r (R397). -/
  | rlR (r : Reg8)
  /-- RR r (R398). -/
  | rrR (r : Reg8)
  /-- SLA r (R399). -/
  | slaR (r : Reg8)
  /-- SRA r (R400). -/
  | sraR (r : Reg8)
  /-- SLL r (R401). -/
  | sllR (r : Reg8)
  /-- SRL r (R402). -/
  | srlR (r : Reg8)
  /-- BIT b,r (R405). -/
  | bitR (b : Fin 8) (r : Reg8)
  /-- BIT b,(HL) (R406). -/
  | bitMemHl (b : Fin 8)
  /-- RES b,r (R408). -/
  | resR (b : Fin 8) (r : Reg8)
  /-- RES b,(HL) (R408). -/
  | resMemHl (b : Fin 8)
  /-- SET b,r (R409). -/
  | setR (b : Fin 8) (r : Reg8)
  /-- SET b,(HL) (R409). -/
  | setMemHl (b : Fin 8)
  -- The ED table (rule R103): rows with operands
  /-- IN r,(C) (R481). -/
  | inRC (r : Reg8)
  /-- OUT (C),r (R484). -/
  | outCR (r : Reg8)
  /-- SBC HL,rp (R373). -/
  | sbcHlRp (p : Pair)
  /-- ADC HL,rp (R372). -/
  | adcHlRp (p : Pair)
  /-- LD (nn),rp (R245). -/
  | ldMemNnRp (p : Pair) (nn : Word)
  /-- LD rp,(nn) (R244). -/
  | ldRpMemNn (p : Pair) (nn : Word)
  /-- NEG (R335); `y` is the field the encoding ignores (log entry 17). -/
  | neg (y : Fin 8)
  /-- RETN (R452); `y` is not 1; the encoding ignores it otherwise. -/
  | retn (y : Fin 8)
  /-- IM 0 (R490); `y` is 0, 1, 4 or 5. -/
  | im0 (y : Fin 8)
  /-- IM 1 (R491); `y` is 2 or 6. -/
  | im1 (y : Fin 8)
  /-- IM 2 (R492); `y` is 3 or 7. -/
  | im2 (y : Fin 8)
  /-- undefined ED (ED 77, ED 7F) (R493); `k` chooses ED 7F. -/
  | undefEd77 (k : Bool)
  /-- undefined ED (x = 0) (R493); `k` is `op[5:0]`. -/
  | undefEdX0 (k : Fin 64)
  /-- undefined ED (x = 2 outside the block set) (R493); `k` is `op[5:0]`. -/
  | undefEdX2 (k : Fin 64)
  /-- undefined ED (x = 3) (R493); `k` is `op[5:0]`. -/
  | undefEdX3 (k : Fin 64)
  -- The DD table (rule R104): rows with operands
  /-- DD CB d op: the op byte is looked up in the DDCB table (R169); only sends the decoder to the DDCB table (log entry 15). -/
  | ddCb (d : Byte) (op : Byte)
  /-- ADD IX,rp (rp[2] = IX) (R371); `p = hl` means IX. -/
  | addIxRp (p : Pair)
  /-- LD IX,nn (R241). -/
  | ldIxNn (nn : Word)
  /-- LD (nn),IX (R247). -/
  | ldMemNnIx (nn : Word)
  /-- LD IX,(nn) (R246). -/
  | ldIxMemNn (nn : Word)
  /-- INC IXH / INC IXL (R329). -/
  | incIxHalf (h : Half)
  /-- DEC IXH / DEC IXL (R331). -/
  | decIxHalf (h : Half)
  /-- LD IXH,n / LD IXL,n (R215). -/
  | ldIxHalfN (h : Half) (n : Byte)
  /-- INC (IX+d) (R330). -/
  | incMemIx (d : Byte)
  /-- DEC (IX+d) (R332). -/
  | decMemIx (d : Byte)
  /-- LD (IX+d),n (R213). -/
  | ldMemIxN (d : Byte) (n : Byte)
  /-- LD r,(IX+d) (r[4] = H, r[5] = L) (R211); codes 4 and 5 are H and L. -/
  | ldRMemIx (r : Reg8) (d : Byte)
  /-- LD (IX+d),r (r[4] = H, r[5] = L) (R212); codes 4 and 5 are H and L. -/
  | ldMemIxR (d : Byte) (r : Reg8)
  /-- LD IXH/IXL,r (y = 4 or 5; z = 4, 5 select IXH, IXL) (R214); codes 4 and 5 of `r` are the halves too. -/
  | ldIxHalfR (h : Half) (r : Reg8)
  /-- LD r,IXH/IXL (z = 4 or 5, y not 4, 5, 6) (R214); `r` is none of codes 4, 5. -/
  | ldRIxHalf (r : Reg8) (h : Half)
  /-- ADD A,IXH / ADD A,IXL (R321). -/
  | addAIxHalf (h : Half)
  /-- ADD A,(IX+d) (R321). -/
  | addAMemIx (d : Byte)
  /-- ADC A,IXH / ADC A,IXL (R322). -/
  | adcAIxHalf (h : Half)
  /-- ADC A,(IX+d) (R322). -/
  | adcAMemIx (d : Byte)
  /-- SUB IXH / SUB IXL (R323). -/
  | subIxHalf (h : Half)
  /-- SUB (IX+d) (R323). -/
  | subMemIx (d : Byte)
  /-- SBC A,IXH / SBC A,IXL (R324). -/
  | sbcAIxHalf (h : Half)
  /-- SBC A,(IX+d) (R324). -/
  | sbcAMemIx (d : Byte)
  /-- AND IXH / AND IXL (R325). -/
  | andIxHalf (h : Half)
  /-- AND (IX+d) (R325). -/
  | andMemIx (d : Byte)
  /-- XOR IXH / XOR IXL (R326). -/
  | xorIxHalf (h : Half)
  /-- XOR (IX+d) (R326). -/
  | xorMemIx (d : Byte)
  /-- OR IXH / OR IXL (R327). -/
  | orIxHalf (h : Half)
  /-- OR (IX+d) (R327). -/
  | orMemIx (d : Byte)
  /-- CP IXH / CP IXL (R328). -/
  | cpIxHalf (h : Half)
  /-- CP (IX+d) (R328). -/
  | cpMemIx (d : Byte)
  /-- fall-through: DD b executes the unprefixed instruction b (any byte not listed above, including 76, EB, D9) (R167); `i` is the unprefixed instruction b. -/
  | fallThroughDD (i : Instr)
  -- The FD table (rule R104): rows with operands
  /-- FD CB d op: the op byte is looked up in the FDCB table (R169); only sends the decoder to the FDCB table (log entry 15). -/
  | fdCb (d : Byte) (op : Byte)
  /-- ADD IY,rp (rp[2] = IY) (R371); `p = hl` means IY. -/
  | addIyRp (p : Pair)
  /-- LD IY,nn (R241). -/
  | ldIyNn (nn : Word)
  /-- LD (nn),IY (R247). -/
  | ldMemNnIy (nn : Word)
  /-- LD IY,(nn) (R246). -/
  | ldIyMemNn (nn : Word)
  /-- INC IYH / INC IYL (R329). -/
  | incIyHalf (h : Half)
  /-- DEC IYH / DEC IYL (R331). -/
  | decIyHalf (h : Half)
  /-- LD IYH,n / LD IYL,n (R215). -/
  | ldIyHalfN (h : Half) (n : Byte)
  /-- INC (IY+d) (R330). -/
  | incMemIy (d : Byte)
  /-- DEC (IY+d) (R332). -/
  | decMemIy (d : Byte)
  /-- LD (IY+d),n (R213). -/
  | ldMemIyN (d : Byte) (n : Byte)
  /-- LD r,(IY+d) (r[4] = H, r[5] = L) (R211); codes 4 and 5 are H and L. -/
  | ldRMemIy (r : Reg8) (d : Byte)
  /-- LD (IY+d),r (r[4] = H, r[5] = L) (R212); codes 4 and 5 are H and L. -/
  | ldMemIyR (d : Byte) (r : Reg8)
  /-- LD IYH/IYL,r (y = 4 or 5; z = 4, 5 select IYH, IYL) (R214); codes 4 and 5 of `r` are the halves too. -/
  | ldIyHalfR (h : Half) (r : Reg8)
  /-- LD r,IYH/IYL (z = 4 or 5, y not 4, 5, 6) (R214); `r` is none of codes 4, 5. -/
  | ldRIyHalf (r : Reg8) (h : Half)
  /-- ADD A,IYH / ADD A,IYL (R321). -/
  | addAIyHalf (h : Half)
  /-- ADD A,(IY+d) (R321). -/
  | addAMemIy (d : Byte)
  /-- ADC A,IYH / ADC A,IYL (R322). -/
  | adcAIyHalf (h : Half)
  /-- ADC A,(IY+d) (R322). -/
  | adcAMemIy (d : Byte)
  /-- SUB IYH / SUB IYL (R323). -/
  | subIyHalf (h : Half)
  /-- SUB (IY+d) (R323). -/
  | subMemIy (d : Byte)
  /-- SBC A,IYH / SBC A,IYL (R324). -/
  | sbcAIyHalf (h : Half)
  /-- SBC A,(IY+d) (R324). -/
  | sbcAMemIy (d : Byte)
  /-- AND IYH / AND IYL (R325). -/
  | andIyHalf (h : Half)
  /-- AND (IY+d) (R325). -/
  | andMemIy (d : Byte)
  /-- XOR IYH / XOR IYL (R326). -/
  | xorIyHalf (h : Half)
  /-- XOR (IY+d) (R326). -/
  | xorMemIy (d : Byte)
  /-- OR IYH / OR IYL (R327). -/
  | orIyHalf (h : Half)
  /-- OR (IY+d) (R327). -/
  | orMemIy (d : Byte)
  /-- CP IYH / CP IYL (R328). -/
  | cpIyHalf (h : Half)
  /-- CP (IY+d) (R328). -/
  | cpMemIy (d : Byte)
  /-- fall-through: FD b executes the unprefixed instruction b (any byte not listed above, including 76, EB, D9) (R167); `i` is the unprefixed instruction b. -/
  | fallThroughFD (i : Instr)
  -- The DDCB table (rule R105): rows with operands
  /-- RLC (IX+d) (R395). -/
  | rlcMemIx (d : Byte)
  /-- RLC (IX+d),r (result also copied to r[z], r[4] = H, r[5] = L; undocumented) (R395). -/
  | rlcMemIxR (d : Byte) (r : Reg8)
  /-- RRC (IX+d) (R396). -/
  | rrcMemIx (d : Byte)
  /-- RRC (IX+d),r (result also copied to r[z], r[4] = H, r[5] = L; undocumented) (R396). -/
  | rrcMemIxR (d : Byte) (r : Reg8)
  /-- RL (IX+d) (R397). -/
  | rlMemIx (d : Byte)
  /-- RL (IX+d),r (result also copied to r[z], r[4] = H, r[5] = L; undocumented) (R397). -/
  | rlMemIxR (d : Byte) (r : Reg8)
  /-- RR (IX+d) (R398). -/
  | rrMemIx (d : Byte)
  /-- RR (IX+d),r (result also copied to r[z], r[4] = H, r[5] = L; undocumented) (R398). -/
  | rrMemIxR (d : Byte) (r : Reg8)
  /-- SLA (IX+d) (R399). -/
  | slaMemIx (d : Byte)
  /-- SLA (IX+d),r (result also copied to r[z], r[4] = H, r[5] = L; undocumented) (R399). -/
  | slaMemIxR (d : Byte) (r : Reg8)
  /-- SRA (IX+d) (R400). -/
  | sraMemIx (d : Byte)
  /-- SRA (IX+d),r (result also copied to r[z], r[4] = H, r[5] = L; undocumented) (R400). -/
  | sraMemIxR (d : Byte) (r : Reg8)
  /-- SLL (IX+d) (R401). -/
  | sllMemIx (d : Byte)
  /-- SLL (IX+d),r (result also copied to r[z], r[4] = H, r[5] = L; undocumented) (R401). -/
  | sllMemIxR (d : Byte) (r : Reg8)
  /-- SRL (IX+d) (R402). -/
  | srlMemIx (d : Byte)
  /-- SRL (IX+d),r (result also copied to r[z], r[4] = H, r[5] = L; undocumented) (R402). -/
  | srlMemIxR (d : Byte) (r : Reg8)
  /-- BIT b,(IX+d) (every z) (R407); `z` is the field the encoding ignores. -/
  | bitMemIx (b : Fin 8) (d : Byte) (z : Fin 8)
  /-- RES b,(IX+d) (R408). -/
  | resMemIx (b : Fin 8) (d : Byte)
  /-- RES b,(IX+d),r (copy to r[z]; undocumented) (R408). -/
  | resMemIxR (b : Fin 8) (d : Byte) (r : Reg8)
  /-- SET b,(IX+d) (R409). -/
  | setMemIx (b : Fin 8) (d : Byte)
  /-- SET b,(IX+d),r (copy to r[z]; undocumented) (R409). -/
  | setMemIxR (b : Fin 8) (d : Byte) (r : Reg8)
  -- The FDCB table (rule R105): rows with operands
  /-- RLC (IY+d) (R395). -/
  | rlcMemIy (d : Byte)
  /-- RLC (IY+d),r (result also copied to r[z], r[4] = H, r[5] = L; undocumented) (R395). -/
  | rlcMemIyR (d : Byte) (r : Reg8)
  /-- RRC (IY+d) (R396). -/
  | rrcMemIy (d : Byte)
  /-- RRC (IY+d),r (result also copied to r[z], r[4] = H, r[5] = L; undocumented) (R396). -/
  | rrcMemIyR (d : Byte) (r : Reg8)
  /-- RL (IY+d) (R397). -/
  | rlMemIy (d : Byte)
  /-- RL (IY+d),r (result also copied to r[z], r[4] = H, r[5] = L; undocumented) (R397). -/
  | rlMemIyR (d : Byte) (r : Reg8)
  /-- RR (IY+d) (R398). -/
  | rrMemIy (d : Byte)
  /-- RR (IY+d),r (result also copied to r[z], r[4] = H, r[5] = L; undocumented) (R398). -/
  | rrMemIyR (d : Byte) (r : Reg8)
  /-- SLA (IY+d) (R399). -/
  | slaMemIy (d : Byte)
  /-- SLA (IY+d),r (result also copied to r[z], r[4] = H, r[5] = L; undocumented) (R399). -/
  | slaMemIyR (d : Byte) (r : Reg8)
  /-- SRA (IY+d) (R400). -/
  | sraMemIy (d : Byte)
  /-- SRA (IY+d),r (result also copied to r[z], r[4] = H, r[5] = L; undocumented) (R400). -/
  | sraMemIyR (d : Byte) (r : Reg8)
  /-- SLL (IY+d) (R401). -/
  | sllMemIy (d : Byte)
  /-- SLL (IY+d),r (result also copied to r[z], r[4] = H, r[5] = L; undocumented) (R401). -/
  | sllMemIyR (d : Byte) (r : Reg8)
  /-- SRL (IY+d) (R402). -/
  | srlMemIy (d : Byte)
  /-- SRL (IY+d),r (result also copied to r[z], r[4] = H, r[5] = L; undocumented) (R402). -/
  | srlMemIyR (d : Byte) (r : Reg8)
  /-- BIT b,(IY+d) (every z) (R407); `z` is the field the encoding ignores. -/
  | bitMemIy (b : Fin 8) (d : Byte) (z : Fin 8)
  /-- RES b,(IY+d) (R408). -/
  | resMemIy (b : Fin 8) (d : Byte)
  /-- RES b,(IY+d),r (copy to r[z]; undocumented) (R408). -/
  | resMemIyR (b : Fin 8) (d : Byte) (r : Reg8)
  /-- SET b,(IY+d) (R409). -/
  | setMemIy (b : Fin 8) (d : Byte)
  /-- SET b,(IY+d),r (copy to r[z]; undocumented) (R409). -/
  | setMemIyR (b : Fin 8) (d : Byte) (r : Reg8)
  -- The unprefixed table (rule R101): rows without operands
  /-- NOP (R486). -/
  | nop
  /-- EX AF,AF' (R255). -/
  | exAfAf
  /-- LD (BC),A (R208). -/
  | ldMemBcA
  /-- LD (DE),A (R209). -/
  | ldMemDeA
  /-- LD A,(BC) (R205). -/
  | ldAMemBc
  /-- LD A,(DE) (R206). -/
  | ldAMemDe
  /-- INC (HL) (R330). -/
  | incMemHl
  /-- DEC (HL) (R332). -/
  | decMemHl
  /-- RLCA (R390). -/
  | rlca
  /-- RRCA (R391). -/
  | rrca
  /-- RLA (R392). -/
  | rla
  /-- RRA (R393). -/
  | rra
  /-- DAA (R333). -/
  | daa
  /-- CPL (R334). -/
  | cpl
  /-- SCF (R337). -/
  | scf
  /-- CCF (R336). -/
  | ccf
  /-- HALT (R487). -/
  | halt
  /-- ADD A,(HL) (R321). -/
  | addAMemHl
  /-- ADC A,(HL) (R322). -/
  | adcAMemHl
  /-- SUB (HL) (R323). -/
  | subMemHl
  /-- SBC A,(HL) (R324). -/
  | sbcAMemHl
  /-- AND (HL) (R325). -/
  | andMemHl
  /-- XOR (HL) (R326). -/
  | xorMemHl
  /-- OR (HL) (R327). -/
  | orMemHl
  /-- CP (HL) (R328). -/
  | cpMemHl
  /-- RET (R449). -/
  | ret
  /-- EXX (R256). -/
  | exx
  /-- JP (HL) (R445). -/
  | jpHl
  /-- LD SP,HL (R248). -/
  | ldSpHl
  /-- EX (SP),HL (R257). -/
  | exMemSpHl
  /-- EX DE,HL (R254). -/
  | exDeHl
  /-- DI (R488). -/
  | di
  /-- EI (R489). -/
  | ei
  -- The CB table (rule R102): rows without operands
  /-- RLC (HL) (R395). -/
  | rlcMemHl
  /-- RRC (HL) (R396). -/
  | rrcMemHl
  /-- RL (HL) (R397). -/
  | rlMemHl
  /-- RR (HL) (R398). -/
  | rrMemHl
  /-- SLA (HL) (R399). -/
  | slaMemHl
  /-- SRA (HL) (R400). -/
  | sraMemHl
  /-- SLL (HL) (R401). -/
  | sllMemHl
  /-- SRL (HL) (R402). -/
  | srlMemHl
  -- The ED table (rule R103): rows without operands
  /-- IN F,(C) (R482). -/
  | inFC
  /-- OUT (C),0 (R485). -/
  | outC0
  /-- RETI (R451). -/
  | reti
  /-- LD I,A (R218). -/
  | ldIA
  /-- LD R,A (R219). -/
  | ldRA
  /-- LD A,I (R216). -/
  | ldAI
  /-- LD A,R (R217). -/
  | ldAR
  /-- RRD (R404). -/
  | rrd
  /-- RLD (R403). -/
  | rld
  /-- LDI (R282). -/
  | ldi
  /-- CPI (R286). -/
  | cpi
  /-- INI (R290). -/
  | ini
  /-- OUTI (R294). -/
  | outi
  /-- LDD (R283). -/
  | ldd
  /-- CPD (R287). -/
  | cpd
  /-- IND (R291). -/
  | ind
  /-- OUTD (R295). -/
  | outd
  /-- LDIR (R284). -/
  | ldir
  /-- CPIR (R288). -/
  | cpir
  /-- INIR (R292). -/
  | inir
  /-- OTIR (R296). -/
  | otir
  /-- LDDR (R285). -/
  | lddr
  /-- CPDR (R289). -/
  | cpdr
  /-- INDR (R293). -/
  | indr
  /-- OTDR (R297). -/
  | otdr
  -- The DD table (rule R104): rows without operands
  /-- dangling DD (the next byte is DD, FD or ED and starts the next instruction) (R168). -/
  | danglingDdDd
  /-- dangling DD (next byte FD) (R168). -/
  | danglingDdFd
  /-- dangling DD (next byte ED) (R168). -/
  | danglingDdEd
  /-- INC IX (R374). -/
  | incIx
  /-- DEC IX (R375). -/
  | decIx
  /-- POP IX (R253). -/
  | popIx
  /-- EX (SP),IX (R258). -/
  | exMemSpIx
  /-- PUSH IX (R251). -/
  | pushIx
  /-- JP (IX) (R445). -/
  | jpIx
  /-- LD SP,IX (R249). -/
  | ldSpIx
  -- The FD table (rule R104): rows without operands
  /-- dangling FD (the next byte is DD, FD or ED and starts the next instruction) (R168). -/
  | danglingFdDd
  /-- dangling FD (next byte FD) (R168). -/
  | danglingFdFd
  /-- dangling FD (next byte ED) (R168). -/
  | danglingFdEd
  /-- INC IY (R374). -/
  | incIy
  /-- DEC IY (R375). -/
  | decIy
  /-- POP IY (R253). -/
  | popIy
  /-- EX (SP),IY (R258). -/
  | exMemSpIy
  /-- PUSH IY (R251). -/
  | pushIy
  /-- JP (IY) (R445). -/
  | jpIy
  /-- LD SP,IY (R249). -/
  | ldSpIy
deriving DecidableEq, Repr

end Sys2Proof
end

