-- ==== Sys2Proof/WellFormed.lean ====
section
/-! DEFINITION. Which instruction terms the encodings admit: the operand restrictions of 30_encoding.md rules R101 to R105.
A word decodes to a well-formed term only. -/

namespace Sys2Proof

/-- The condition is one of the four JR takes (rule R95). -/
def Cond.shortJump : Cond → Bool
  | .nz => true
  | .z => true
  | .nc => true
  | .c => true
  | .po => false
  | .pe => false
  | .p => false
  | .m => false

/-- The code is not 4 or 5, so the register is the same with and without substitution (rule R93). -/
def Reg8.plain (r : Reg8) : Bool := r != .h && r != .l

/-- The unprefixed instructions that a DD or FD prefix leaves as they are: those that do not name H, L, HL or (HL), and
EX DE,HL and EXX (rule R104). -/
def Instr.fallsThrough : Instr → Bool
  | .nop => true
  | .exAfAf => true
  | .djnz _ => true
  | .jr _ => true
  | .jrCc cc _ => cc.shortJump
  | .ldRpNn p _ => p != .hl
  | .ldMemBcA => true
  | .ldMemDeA => true
  | .ldMemNnA _ => true
  | .ldAMemBc => true
  | .ldAMemDe => true
  | .ldAMemNn _ => true
  | .incRp p => p != .hl
  | .decRp p => p != .hl
  | .incR r => r.plain
  | .decR r => r.plain
  | .ldRN r _ => r.plain
  | .rlca => true
  | .rrca => true
  | .rla => true
  | .rra => true
  | .daa => true
  | .cpl => true
  | .scf => true
  | .ccf => true
  | .halt => true
  | .ldRR dst src => dst.plain && src.plain
  | .addAR r => r.plain
  | .addAN _ => true
  | .adcAR r => r.plain
  | .adcAN _ => true
  | .subR r => r.plain
  | .subN _ => true
  | .sbcAR r => r.plain
  | .sbcAN _ => true
  | .andR r => r.plain
  | .andN _ => true
  | .xorR r => r.plain
  | .xorN _ => true
  | .orR r => r.plain
  | .orN _ => true
  | .cpR r => r.plain
  | .cpN _ => true
  | .retCc _ => true
  | .popRp2 p => p != .hl
  | .ret => true
  | .exx => true
  | .jpCcNn _ _ => true
  | .jpNn _ => true
  | .outNA _ => true
  | .inAN _ => true
  | .exDeHl => true
  | .di => true
  | .ei => true
  | .callCcNn _ _ => true
  | .pushRp2 p => p != .hl
  | .callNn _ => true
  | .rst _ => true
  | _ => false

/-- The operands are ones an encoding holds. The prefix rows are not well formed: each stands for the instruction of the
table it sends the decoder to (log entry 15). -/
def Instr.wellFormed : Instr → Bool
  | .jrCc cc _ => cc.shortJump
  | .prefixCB _ => false
  | .prefixDD _ _ _ => false
  | .prefixED _ _ _ => false
  | .prefixFD _ _ _ => false
  | .retn y => y != 1
  | .im0 y => [0, 1, 4, 5].contains y
  | .im1 y => [2, 6].contains y
  | .im2 y => [3, 7].contains y
  | .undefEdX2 k => !(decide (4 ≤ k.val / 8) && decide (k.val % 8 < 4))
  | .ddCb _ _ => false
  | .ldRIxHalf r _ => r.plain
  | .fallThroughDD i => i.fallsThrough
  | .fdCb _ _ => false
  | .ldRIyHalf r _ => r.plain
  | .fallThroughFD i => i.fallsThrough
  | _ => true

end Sys2Proof
end

