-- ==== Sys2Proof/Decode.lean ====
section
/-! DEFINITION. The decoder (30_encoding.md rules R90 to R106) and, after it, the encoder.
The decoder is total: four bytes always hold one instruction (rule R107); a list of bytes too short for its instruction is
rejected by name. -/

namespace Sys2Proof

/-! ### Fields and operand codes (rules R92 to R98) -/

/-- `x = op[7:6]`. -/
def fieldX (op : Byte) : Nat := op.toNat / 64
/-- `y = op[5:3]`. -/
def fieldY (op : Byte) : Nat := op.toNat / 8 % 8
/-- `z = op[2:0]`. -/
def fieldZ (op : Byte) : Nat := op.toNat % 8
/-- `p = op[5:4]`. -/
def fieldP (op : Byte) : Nat := op.toNat / 16 % 4
/-- `q = op[3]`. -/
def fieldQ (op : Byte) : Nat := op.toNat / 8 % 2
/-- `y` as a number below 8. -/
def finY (op : Byte) : Fin 8 := Fin.ofNat 8 (fieldY op)
/-- `z` as a number below 8. -/
def finZ (op : Byte) : Fin 8 := Fin.ofNat 8 (fieldZ op)

/-- The register of a code other than 6 (rule R93). -/
def reg8OfCode : Nat → Reg8
  | 0 => .b
  | 1 => .c
  | 2 => .d
  | 3 => .e
  | 4 => .h
  | 5 => .l
  | _ => .a

/-- The pair of a code (rule R94). -/
def pairOfCode : Nat → Pair
  | 0 => .bc
  | 1 => .de
  | 2 => .hl
  | _ => .sp

/-- The stack pair of a code (rule R94). -/
def stackPairOfCode : Nat → StackPair
  | 0 => .bc
  | 1 => .de
  | 2 => .hl
  | _ => .af

/-- The condition of a code (rule R95). -/
def condOfCode : Nat → Cond
  | 0 => .nz
  | 1 => .z
  | 2 => .nc
  | 3 => .c
  | 4 => .po
  | 5 => .pe
  | 6 => .p
  | _ => .m

/-- The index half of code 4 or 5 (rule R93). -/
def halfOfCode : Nat → Half
  | 4 => .high
  | _ => .low

/-! ### The unprefixed table (rule R101) -/

/-- `alu[y] r` (rule R96). -/
def aluRegRow (y : Nat) (r : Reg8) : Instr :=
  match y with
  | 0 => .addAR r
  | 1 => .adcAR r
  | 2 => .subR r
  | 3 => .sbcAR r
  | 4 => .andR r
  | 5 => .xorR r
  | 6 => .orR r
  | _ => .cpR r

/-- `alu[y] (HL)`. -/
def aluMemRow (y : Nat) : Instr :=
  match y with
  | 0 => .addAMemHl
  | 1 => .adcAMemHl
  | 2 => .subMemHl
  | 3 => .sbcAMemHl
  | 4 => .andMemHl
  | 5 => .xorMemHl
  | 6 => .orMemHl
  | _ => .cpMemHl

/-- `alu[y] n`. -/
def aluImmRow (y : Nat) (n : Byte) : Instr :=
  match y with
  | 0 => .addAN n
  | 1 => .adcAN n
  | 2 => .subN n
  | 3 => .sbcAN n
  | 4 => .andN n
  | 5 => .xorN n
  | 6 => .orN n
  | _ => .cpN n

/-- x = 0, z = 0. -/
def column00Row (y : Nat) (b1 : Byte) : Instr :=
  match y with
  | 0 => .nop
  | 1 => .exAfAf
  | 2 => .djnz b1
  | 3 => .jr b1
  | _ => .jrCc (condOfCode (y - 4)) b1

/-- x = 0, z = 2. -/
def column02Row (y : Nat) (nn : Word) : Instr :=
  match y with
  | 0 => .ldMemBcA
  | 1 => .ldAMemBc
  | 2 => .ldMemDeA
  | 3 => .ldAMemDe
  | 4 => .ldMemNnHl nn
  | 5 => .ldHlMemNn nn
  | 6 => .ldMemNnA nn
  | _ => .ldAMemNn nn

/-- x = 0, z = 7. -/
def column07Row (y : Nat) : Instr :=
  match y with
  | 0 => .rlca
  | 1 => .rrca
  | 2 => .rla
  | 3 => .rra
  | 4 => .daa
  | 5 => .cpl
  | 6 => .scf
  | _ => .ccf

/-- x = 3, z = 1. -/
def column31Row (y : Nat) : Instr :=
  match y with
  | 0 => .popRp2 .bc
  | 1 => .ret
  | 2 => .popRp2 .de
  | 3 => .exx
  | 4 => .popRp2 .hl
  | 5 => .jpHl
  | 6 => .popRp2 .af
  | _ => .ldSpHl

/-- x = 3, z = 3. -/
def column33Row (y : Nat) (b1 : Byte) (nn : Word) : Instr :=
  match y with
  | 0 => .jpNn nn
  | 1 => .prefixCB b1
  | 2 => .outNA b1
  | 3 => .inAN b1
  | 4 => .exMemSpHl
  | 5 => .exDeHl
  | 6 => .di
  | _ => .ei

/-- x = 3, z = 5. -/
def column35Row (y : Nat) (b1 : Byte) (b2 : Byte) (b3 : Byte) : Instr :=
  match y with
  | 0 => .pushRp2 .bc
  | 1 => .callNn (Word.mk b2 b1)
  | 2 => .pushRp2 .de
  | 3 => .prefixDD b1 b2 b3
  | 4 => .pushRp2 .hl
  | 5 => .prefixED b1 b2 b3
  | 6 => .pushRp2 .af
  | _ => .prefixFD b1 b2 b3

/-- The rows with x = 0. -/
def quarter0 (op b1 b2 : Byte) : Instr :=
  let y := fieldY op
  let p := pairOfCode (fieldP op)
  let nn := Word.mk b2 b1
  match fieldZ op with
  | 0 => column00Row y b1
  | 1 => if fieldQ op = 0 then .ldRpNn p nn else .addHlRp p
  | 2 => column02Row y nn
  | 3 => if fieldQ op = 0 then .incRp p else .decRp p
  | 4 => if y = 6 then .incMemHl else .incR (reg8OfCode y)
  | 5 => if y = 6 then .decMemHl else .decR (reg8OfCode y)
  | 6 => if y = 6 then .ldMemHlN b1 else .ldRN (reg8OfCode y) b1
  | _ => column07Row y

/-- The rows with x = 1. -/
def quarter1 (op : Byte) : Instr :=
  let y := fieldY op
  let z := fieldZ op
  if y = 6 then (if z = 6 then .halt else .ldMemHlR (reg8OfCode z))
  else if z = 6 then .ldRMemHl (reg8OfCode y)
  else .ldRR (reg8OfCode y) (reg8OfCode z)

/-- The rows with x = 2. -/
def quarter2 (op : Byte) : Instr :=
  if fieldZ op = 6 then aluMemRow (fieldY op) else aluRegRow (fieldY op) (reg8OfCode (fieldZ op))

/-- The rows with x = 3. -/
def quarter3 (op b1 b2 b3 : Byte) : Instr :=
  let y := fieldY op
  let cc := condOfCode y
  let nn := Word.mk b2 b1
  match fieldZ op with
  | 0 => .retCc cc
  | 1 => column31Row y
  | 2 => .jpCcNn cc nn
  | 3 => column33Row y b1 nn
  | 4 => .callCcNn cc nn
  | 5 => column35Row y b1 b2 b3
  | 6 => aluImmRow y b1
  | _ => .rst (finY op)

/-- The unprefixed table: the row of `op`, with the bytes after it. -/
def unprefixedTable (op b1 b2 b3 : Byte) : Instr :=
  match fieldX op with
  | 0 => quarter0 op b1 b2
  | 1 => quarter1 op
  | 2 => quarter2 op
  | _ => quarter3 op b1 b2 b3

/-! ### The CB table (rule R102) -/

/-- `rot[y] r` (rule R97). -/
def rotRegRow (y : Nat) (r : Reg8) : Instr :=
  match y with
  | 0 => .rlcR r
  | 1 => .rrcR r
  | 2 => .rlR r
  | 3 => .rrR r
  | 4 => .slaR r
  | 5 => .sraR r
  | 6 => .sllR r
  | _ => .srlR r

/-- `rot[y] (HL)`. -/
def rotMemRow (y : Nat) : Instr :=
  match y with
  | 0 => .rlcMemHl
  | 1 => .rrcMemHl
  | 2 => .rlMemHl
  | 3 => .rrMemHl
  | 4 => .slaMemHl
  | 5 => .sraMemHl
  | 6 => .sllMemHl
  | _ => .srlMemHl

/-- The CB table: the row of `op`. -/
def cbTable (op : Byte) : Instr :=
  let b := finY op
  let r := reg8OfCode (fieldZ op)
  match fieldX op with
  | 0 => if fieldZ op = 6 then rotMemRow (fieldY op) else rotRegRow (fieldY op) r
  | 1 => if fieldZ op = 6 then .bitMemHl b else .bitR b r
  | 2 => if fieldZ op = 6 then .resMemHl b else .resR b r
  | _ => if fieldZ op = 6 then .setMemHl b else .setR b r

/-! ### The ED table (rule R103) -/

/-- `im[y]` (rule R98). -/
def imRow (y : Fin 8) : Instr :=
  match y.val with
  | 0 => .im0 y
  | 1 => .im0 y
  | 2 => .im1 y
  | 3 => .im2 y
  | 4 => .im0 y
  | 5 => .im0 y
  | 6 => .im1 y
  | _ => .im2 y

/-- x = 1, z = 7. -/
def edColumn7Row (y : Nat) : Instr :=
  match y with
  | 0 => .ldIA
  | 1 => .ldRA
  | 2 => .ldAI
  | 3 => .ldAR
  | 4 => .rrd
  | 5 => .rld
  | 6 => .undefEd77 false
  | _ => .undefEd77 true

/-- The block instructions, by `4 * (y - 4) + z`. -/
def blockRow (k : Nat) : Instr :=
  match k with
  | 0 => .ldi
  | 1 => .cpi
  | 2 => .ini
  | 3 => .outi
  | 4 => .ldd
  | 5 => .cpd
  | 6 => .ind
  | 7 => .outd
  | 8 => .ldir
  | 9 => .cpir
  | 10 => .inir
  | 11 => .otir
  | 12 => .lddr
  | 13 => .cpdr
  | 14 => .indr
  | _ => .otdr

/-- The ED rows with x = 1. -/
def edQuarter1 (op b1 b2 : Byte) : Instr :=
  let y := fieldY op
  let p := pairOfCode (fieldP op)
  let nn := Word.mk b2 b1
  match fieldZ op with
  | 0 => if y = 6 then .inFC else .inRC (reg8OfCode y)
  | 1 => if y = 6 then .outC0 else .outCR (reg8OfCode y)
  | 2 => if fieldQ op = 0 then .sbcHlRp p else .adcHlRp p
  | 3 => if fieldQ op = 0 then .ldMemNnRp p nn else .ldRpMemNn p nn
  | 4 => .neg (finY op)
  | 5 => if y = 1 then .reti else .retn (finY op)
  | 6 => imRow (finY op)
  | _ => edColumn7Row y

/-- The ED table: the row of `op`, with the bytes after it. -/
def edTable (op b1 b2 : Byte) : Instr :=
  let k := Fin.ofNat 64 op.toNat
  match fieldX op with
  | 0 => .undefEdX0 k
  | 1 => edQuarter1 op b1 b2
  | 2 => if 4 ≤ fieldY op ∧ fieldZ op < 4 then blockRow (4 * (fieldY op - 4) + fieldZ op) else .undefEdX2 k
  | _ => .undefEdX3 k

/-! ### The DD and DDCB tables (rules R104, R105) -/

/-- `rot[y] (IX+d)`. -/
def rotMemIxRow (y : Nat) (d : Byte) : Instr :=
  match y with
  | 0 => .rlcMemIx d
  | 1 => .rrcMemIx d
  | 2 => .rlMemIx d
  | 3 => .rrMemIx d
  | 4 => .slaMemIx d
  | 5 => .sraMemIx d
  | 6 => .sllMemIx d
  | _ => .srlMemIx d

/-- `rot[y] (IX+d),r`. -/
def rotMemIxCopyRow (y : Nat) (d : Byte) (r : Reg8) : Instr :=
  match y with
  | 0 => .rlcMemIxR d r
  | 1 => .rrcMemIxR d r
  | 2 => .rlMemIxR d r
  | 3 => .rrMemIxR d r
  | 4 => .slaMemIxR d r
  | 5 => .sraMemIxR d r
  | 6 => .sllMemIxR d r
  | _ => .srlMemIxR d r

/-- The DDCB table: the row of `op`, with the displacement before it. -/
def ddcbTable (d op : Byte) : Instr :=
  let b := finY op
  let r := reg8OfCode (fieldZ op)
  match fieldX op with
  | 0 => if fieldZ op = 6 then rotMemIxRow (fieldY op) d else rotMemIxCopyRow (fieldY op) d r
  | 1 => .bitMemIx b d (finZ op)
  | 2 => if fieldZ op = 6 then .resMemIx b d else .resMemIxR b d r
  | _ => if fieldZ op = 6 then .setMemIx b d else .setMemIxR b d r

/-- `alu[y] IXH` or `IXL`. -/
def aluIxHalfRow (y : Nat) (h : Half) : Instr :=
  match y with
  | 0 => .addAIxHalf h
  | 1 => .adcAIxHalf h
  | 2 => .subIxHalf h
  | 3 => .sbcAIxHalf h
  | 4 => .andIxHalf h
  | 5 => .xorIxHalf h
  | 6 => .orIxHalf h
  | _ => .cpIxHalf h

/-- `alu[y] (IX+d)`. -/
def aluIxMemRow (y : Nat) (d : Byte) : Instr :=
  match y with
  | 0 => .addAMemIx d
  | 1 => .adcAMemIx d
  | 2 => .subMemIx d
  | 3 => .sbcAMemIx d
  | 4 => .andMemIx d
  | 5 => .xorMemIx d
  | 6 => .orMemIx d
  | _ => .cpMemIx d

/-- The DD rows with x = 1: `fall` is the row of an opcode that is not substituted. -/
def ddQuarter1 (op d : Byte) (fall : Instr) : Instr :=
  let y := fieldY op
  let z := fieldZ op
  if y = 6 then (if z = 6 then fall else .ldMemIxR d (reg8OfCode z))
  else if z = 6 then .ldRMemIx (reg8OfCode y) d
  else if y = 4 ∨ y = 5 then .ldIxHalfR (halfOfCode y) (reg8OfCode z)
  else if z = 4 ∨ z = 5 then .ldRIxHalf (reg8OfCode y) (halfOfCode z)
  else fall

/-- The DD rows with x = 2. -/
def ddQuarter2 (op d : Byte) (fall : Instr) : Instr :=
  if fieldZ op = 6 then aluIxMemRow (fieldY op) d
  else if fieldZ op = 4 ∨ fieldZ op = 5 then aluIxHalfRow (fieldY op) (halfOfCode (fieldZ op))
  else fall

/-- The DD rows with x = 0. -/
def ddQuarter0 (op b1 b2 : Byte) (fall : Instr) : Instr :=
  let y := fieldY op
  let nn := Word.mk b2 b1
  match fieldZ op with
  | 1 => if fieldQ op = 1 then .addIxRp (pairOfCode (fieldP op)) else if y = 4 then .ldIxNn nn else fall
  | 2 => if y = 4 then .ldMemNnIx nn else if y = 5 then .ldIxMemNn nn else fall
  | 3 => if y = 4 then .incIx else if y = 5 then .decIx else fall
  | 4 => if y = 6 then .incMemIx b1 else if y = 4 ∨ y = 5 then .incIxHalf (halfOfCode y) else fall
  | 5 => if y = 6 then .decMemIx b1 else if y = 4 ∨ y = 5 then .decIxHalf (halfOfCode y) else fall
  | 6 => if y = 6 then .ldMemIxN b1 b2 else if y = 4 ∨ y = 5 then .ldIxHalfN (halfOfCode y) b1 else fall
  | _ => fall

/-- The DD rows with x = 3: the dangling prefixes look at `op` without taking it (40_engine.md rule R168). -/
def ddQuarter3 (op b1 b2 : Byte) (fall : Instr) : Instr :=
  match op.toNat with
  | 0xCB => .ddCb b1 b2
  | 0xDD => .danglingDdDd
  | 0xE1 => .popIx
  | 0xE3 => .exMemSpIx
  | 0xE5 => .pushIx
  | 0xE9 => .jpIx
  | 0xED => .danglingDdEd
  | 0xF9 => .ldSpIx
  | 0xFD => .danglingDdFd
  | _ => fall

/-- The DD table: the row of `op`, with the bytes after it. -/
def ddTable (op b1 b2 : Byte) : Instr :=
  let fall := Instr.fallThroughDD (unprefixedTable op b1 b2 0)
  match fieldX op with
  | 0 => ddQuarter0 op b1 b2 fall
  | 1 => ddQuarter1 op b1 fall
  | 2 => ddQuarter2 op b1 fall
  | _ => ddQuarter3 op b1 b2 fall

/-! ### The FD and FDCB tables (rules R104, R105) -/

/-- `rot[y] (IY+d)`. -/
def rotMemIyRow (y : Nat) (d : Byte) : Instr :=
  match y with
  | 0 => .rlcMemIy d
  | 1 => .rrcMemIy d
  | 2 => .rlMemIy d
  | 3 => .rrMemIy d
  | 4 => .slaMemIy d
  | 5 => .sraMemIy d
  | 6 => .sllMemIy d
  | _ => .srlMemIy d

/-- `rot[y] (IY+d),r`. -/
def rotMemIyCopyRow (y : Nat) (d : Byte) (r : Reg8) : Instr :=
  match y with
  | 0 => .rlcMemIyR d r
  | 1 => .rrcMemIyR d r
  | 2 => .rlMemIyR d r
  | 3 => .rrMemIyR d r
  | 4 => .slaMemIyR d r
  | 5 => .sraMemIyR d r
  | 6 => .sllMemIyR d r
  | _ => .srlMemIyR d r

/-- The FDCB table: the row of `op`, with the displacement before it. -/
def fdcbTable (d op : Byte) : Instr :=
  let b := finY op
  let r := reg8OfCode (fieldZ op)
  match fieldX op with
  | 0 => if fieldZ op = 6 then rotMemIyRow (fieldY op) d else rotMemIyCopyRow (fieldY op) d r
  | 1 => .bitMemIy b d (finZ op)
  | 2 => if fieldZ op = 6 then .resMemIy b d else .resMemIyR b d r
  | _ => if fieldZ op = 6 then .setMemIy b d else .setMemIyR b d r

/-- `alu[y] IYH` or `IYL`. -/
def aluIyHalfRow (y : Nat) (h : Half) : Instr :=
  match y with
  | 0 => .addAIyHalf h
  | 1 => .adcAIyHalf h
  | 2 => .subIyHalf h
  | 3 => .sbcAIyHalf h
  | 4 => .andIyHalf h
  | 5 => .xorIyHalf h
  | 6 => .orIyHalf h
  | _ => .cpIyHalf h

/-- `alu[y] (IY+d)`. -/
def aluIyMemRow (y : Nat) (d : Byte) : Instr :=
  match y with
  | 0 => .addAMemIy d
  | 1 => .adcAMemIy d
  | 2 => .subMemIy d
  | 3 => .sbcAMemIy d
  | 4 => .andMemIy d
  | 5 => .xorMemIy d
  | 6 => .orMemIy d
  | _ => .cpMemIy d

/-- The FD rows with x = 1: `fall` is the row of an opcode that is not substituted. -/
def fdQuarter1 (op d : Byte) (fall : Instr) : Instr :=
  let y := fieldY op
  let z := fieldZ op
  if y = 6 then (if z = 6 then fall else .ldMemIyR d (reg8OfCode z))
  else if z = 6 then .ldRMemIy (reg8OfCode y) d
  else if y = 4 ∨ y = 5 then .ldIyHalfR (halfOfCode y) (reg8OfCode z)
  else if z = 4 ∨ z = 5 then .ldRIyHalf (reg8OfCode y) (halfOfCode z)
  else fall

/-- The FD rows with x = 2. -/
def fdQuarter2 (op d : Byte) (fall : Instr) : Instr :=
  if fieldZ op = 6 then aluIyMemRow (fieldY op) d
  else if fieldZ op = 4 ∨ fieldZ op = 5 then aluIyHalfRow (fieldY op) (halfOfCode (fieldZ op))
  else fall

/-- The FD rows with x = 0. -/
def fdQuarter0 (op b1 b2 : Byte) (fall : Instr) : Instr :=
  let y := fieldY op
  let nn := Word.mk b2 b1
  match fieldZ op with
  | 1 => if fieldQ op = 1 then .addIyRp (pairOfCode (fieldP op)) else if y = 4 then .ldIyNn nn else fall
  | 2 => if y = 4 then .ldMemNnIy nn else if y = 5 then .ldIyMemNn nn else fall
  | 3 => if y = 4 then .incIy else if y = 5 then .decIy else fall
  | 4 => if y = 6 then .incMemIy b1 else if y = 4 ∨ y = 5 then .incIyHalf (halfOfCode y) else fall
  | 5 => if y = 6 then .decMemIy b1 else if y = 4 ∨ y = 5 then .decIyHalf (halfOfCode y) else fall
  | 6 => if y = 6 then .ldMemIyN b1 b2 else if y = 4 ∨ y = 5 then .ldIyHalfN (halfOfCode y) b1 else fall
  | _ => fall

/-- The FD rows with x = 3: the dangling prefixes look at `op` without taking it (40_engine.md rule R168). -/
def fdQuarter3 (op b1 b2 : Byte) (fall : Instr) : Instr :=
  match op.toNat with
  | 0xCB => .fdCb b1 b2
  | 0xDD => .danglingFdDd
  | 0xE1 => .popIy
  | 0xE3 => .exMemSpIy
  | 0xE5 => .pushIy
  | 0xE9 => .jpIy
  | 0xED => .danglingFdEd
  | 0xF9 => .ldSpIy
  | 0xFD => .danglingFdFd
  | _ => fall

/-- The FD table: the row of `op`, with the bytes after it. -/
def fdTable (op b1 b2 : Byte) : Instr :=
  let fall := Instr.fallThroughFD (unprefixedTable op b1 b2 0)
  match fieldX op with
  | 0 => fdQuarter0 op b1 b2 fall
  | 1 => fdQuarter1 op b1 fall
  | 2 => fdQuarter2 op b1 fall
  | _ => fdQuarter3 op b1 b2 fall

/-! ### The decoder (rules R106, R107; 40_engine.md rule R159) -/

/-- A prefix row resolved: the next byte is looked up in the table it names (40_engine.md rules R165, R169, R170). Any other
row is itself. -/
def resolvePrefix (row : Instr) : Instr :=
  match row with
  | .prefixCB op => cbTable op
  | .prefixED op b1 b2 => edTable op b1 b2
  | .prefixDD op b1 b2 => ddTable op b1 b2
  | .prefixFD op b1 b2 => fdTable op b1 b2
  | row => row

/-- A DD CB or FD CB row resolved: the opcode byte after the displacement is looked up (40_engine.md rule R169). -/
def resolveIndexedBit (row : Instr) : Instr :=
  match row with
  | .ddCb d op => ddcbTable d op
  | .fdCb d op => fdcbTable d op
  | row => row

/-- The instruction that begins with the bytes `b0 b1 b2 b3`, as many of them as it has. -/
def decodeBytes (b0 b1 b2 b3 : Byte) : Instr := resolveIndexedBit (resolvePrefix (unprefixedTable b0 b1 b2 b3))

/-! ### The encoder (rules R91 to R100) -/

/-- `op` from its fields (rule R92). -/
def opcode (x y z : Nat) : Byte := BitVec.ofNat 8 (64 * x + 8 * y + z)

/-- The code of a register (rule R93). -/
def Reg8.code : Reg8 → Nat
  | .b => 0
  | .c => 1
  | .d => 2
  | .e => 3
  | .h => 4
  | .l => 5
  | .a => 7

/-- The code of a pair (rule R94). -/
def Pair.code : Pair → Nat
  | .bc => 0
  | .de => 1
  | .hl => 2
  | .sp => 3

/-- The code of a stack pair (rule R94). -/
def StackPair.code : StackPair → Nat
  | .bc => 0
  | .de => 1
  | .hl => 2
  | .af => 3

/-- The code of a condition (rule R95). -/
def Cond.code : Cond → Nat
  | .nz => 0
  | .z => 1
  | .nc => 2
  | .c => 3
  | .po => 4
  | .pe => 5
  | .p => 6
  | .m => 7

/-- The code of an index half (rule R93). -/
def Half.code : Half → Nat
  | .high => 4
  | .low => 5

/-- The bytes that make the decoder read the instruction, in fetch order. For a dangling prefix the last byte is the one the
engine looks at without taking it (40_engine.md rule R168, log entry 16). -/
def encode : Instr → List Byte
  | .nop => [0x00]
  | .exAfAf => [0x08]
  | .djnz e => [0x10, e]
  | .jr e => [0x18, e]
  | .jrCc cc e => [opcode 0 (cc.code + 4) 0, e]
  | .ldRpNn p nn => [opcode 0 (2 * p.code) 1, nn.lo, nn.hi]
  | .addHlRp p => [opcode 0 (2 * p.code + 1) 1]
  | .ldMemBcA => [0x02]
  | .ldMemDeA => [0x12]
  | .ldMemNnHl nn => [0x22, nn.lo, nn.hi]
  | .ldMemNnA nn => [0x32, nn.lo, nn.hi]
  | .ldAMemBc => [0x0A]
  | .ldAMemDe => [0x1A]
  | .ldHlMemNn nn => [0x2A, nn.lo, nn.hi]
  | .ldAMemNn nn => [0x3A, nn.lo, nn.hi]
  | .incRp p => [opcode 0 (2 * p.code) 3]
  | .decRp p => [opcode 0 (2 * p.code + 1) 3]
  | .incR r => [opcode 0 r.code 4]
  | .incMemHl => [0x34]
  | .decR r => [opcode 0 r.code 5]
  | .decMemHl => [0x35]
  | .ldRN r n => [opcode 0 r.code 6, n]
  | .ldMemHlN n => [0x36, n]
  | .rlca => [0x07]
  | .rrca => [0x0F]
  | .rla => [0x17]
  | .rra => [0x1F]
  | .daa => [0x27]
  | .cpl => [0x2F]
  | .scf => [0x37]
  | .ccf => [0x3F]
  | .halt => [0x76]
  | .ldRMemHl r => [opcode 1 r.code 6]
  | .ldMemHlR r => [opcode 1 6 r.code]
  | .ldRR dst src => [opcode 1 dst.code src.code]
  | .addAR r => [opcode 2 0 r.code]
  | .addAMemHl => [0x86]
  | .addAN n => [0xC6, n]
  | .adcAR r => [opcode 2 1 r.code]
  | .adcAMemHl => [0x8E]
  | .adcAN n => [0xCE, n]
  | .subR r => [opcode 2 2 r.code]
  | .subMemHl => [0x96]
  | .subN n => [0xD6, n]
  | .sbcAR r => [opcode 2 3 r.code]
  | .sbcAMemHl => [0x9E]
  | .sbcAN n => [0xDE, n]
  | .andR r => [opcode 2 4 r.code]
  | .andMemHl => [0xA6]
  | .andN n => [0xE6, n]
  | .xorR r => [opcode 2 5 r.code]
  | .xorMemHl => [0xAE]
  | .xorN n => [0xEE, n]
  | .orR r => [opcode 2 6 r.code]
  | .orMemHl => [0xB6]
  | .orN n => [0xF6, n]
  | .cpR r => [opcode 2 7 r.code]
  | .cpMemHl => [0xBE]
  | .cpN n => [0xFE, n]
  | .retCc cc => [opcode 3 cc.code 0]
  | .popRp2 p => [opcode 3 (2 * p.code) 1]
  | .ret => [0xC9]
  | .exx => [0xD9]
  | .jpHl => [0xE9]
  | .ldSpHl => [0xF9]
  | .jpCcNn cc nn => [opcode 3 cc.code 2, nn.lo, nn.hi]
  | .jpNn nn => [0xC3, nn.lo, nn.hi]
  | .prefixCB op => [0xCB, op]
  | .outNA n => [0xD3, n]
  | .inAN n => [0xDB, n]
  | .exMemSpHl => [0xE3]
  | .exDeHl => [0xEB]
  | .di => [0xF3]
  | .ei => [0xFB]
  | .callCcNn cc nn => [opcode 3 cc.code 4, nn.lo, nn.hi]
  | .pushRp2 p => [opcode 3 (2 * p.code) 5]
  | .callNn nn => [0xCD, nn.lo, nn.hi]
  | .prefixDD b1 b2 b3 => [0xDD, b1, b2, b3]
  | .prefixED b1 b2 b3 => [0xED, b1, b2, b3]
  | .prefixFD b1 b2 b3 => [0xFD, b1, b2, b3]
  | .rst y => [opcode 3 y.val 7]
  | .rlcR r => [0xCB, opcode 0 0 r.code]
  | .rlcMemHl => [0xCB, 0x06]
  | .rrcR r => [0xCB, opcode 0 1 r.code]
  | .rrcMemHl => [0xCB, 0x0E]
  | .rlR r => [0xCB, opcode 0 2 r.code]
  | .rlMemHl => [0xCB, 0x16]
  | .rrR r => [0xCB, opcode 0 3 r.code]
  | .rrMemHl => [0xCB, 0x1E]
  | .slaR r => [0xCB, opcode 0 4 r.code]
  | .slaMemHl => [0xCB, 0x26]
  | .sraR r => [0xCB, opcode 0 5 r.code]
  | .sraMemHl => [0xCB, 0x2E]
  | .sllR r => [0xCB, opcode 0 6 r.code]
  | .sllMemHl => [0xCB, 0x36]
  | .srlR r => [0xCB, opcode 0 7 r.code]
  | .srlMemHl => [0xCB, 0x3E]
  | .bitR b r => [0xCB, opcode 1 b.val r.code]
  | .bitMemHl b => [0xCB, opcode 1 b.val 6]
  | .resR b r => [0xCB, opcode 2 b.val r.code]
  | .resMemHl b => [0xCB, opcode 2 b.val 6]
  | .setR b r => [0xCB, opcode 3 b.val r.code]
  | .setMemHl b => [0xCB, opcode 3 b.val 6]
  | .inRC r => [0xED, opcode 1 r.code 0]
  | .inFC => [0xED, 0x70]
  | .outCR r => [0xED, opcode 1 r.code 1]
  | .outC0 => [0xED, 0x71]
  | .sbcHlRp p => [0xED, opcode 1 (2 * p.code) 2]
  | .adcHlRp p => [0xED, opcode 1 (2 * p.code + 1) 2]
  | .ldMemNnRp p nn => [0xED, opcode 1 (2 * p.code) 3, nn.lo, nn.hi]
  | .ldRpMemNn p nn => [0xED, opcode 1 (2 * p.code + 1) 3, nn.lo, nn.hi]
  | .neg y => [0xED, opcode 1 y.val 4]
  | .reti => [0xED, 0x4D]
  | .retn y => [0xED, opcode 1 y.val 5]
  | .im0 y => [0xED, opcode 1 y.val 6]
  | .im1 y => [0xED, opcode 1 y.val 6]
  | .im2 y => [0xED, opcode 1 y.val 6]
  | .ldIA => [0xED, 0x47]
  | .ldRA => [0xED, 0x4F]
  | .ldAI => [0xED, 0x57]
  | .ldAR => [0xED, 0x5F]
  | .rrd => [0xED, 0x67]
  | .rld => [0xED, 0x6F]
  | .undefEd77 k => [0xED, if k then 0x7F else 0x77]
  | .ldi => [0xED, 0xA0]
  | .cpi => [0xED, 0xA1]
  | .ini => [0xED, 0xA2]
  | .outi => [0xED, 0xA3]
  | .ldd => [0xED, 0xA8]
  | .cpd => [0xED, 0xA9]
  | .ind => [0xED, 0xAA]
  | .outd => [0xED, 0xAB]
  | .ldir => [0xED, 0xB0]
  | .cpir => [0xED, 0xB1]
  | .inir => [0xED, 0xB2]
  | .otir => [0xED, 0xB3]
  | .lddr => [0xED, 0xB8]
  | .cpdr => [0xED, 0xB9]
  | .indr => [0xED, 0xBA]
  | .otdr => [0xED, 0xBB]
  | .undefEdX0 k => [0xED, BitVec.ofNat 8 (0 + k.val)]
  | .undefEdX2 k => [0xED, BitVec.ofNat 8 (128 + k.val)]
  | .undefEdX3 k => [0xED, BitVec.ofNat 8 (192 + k.val)]
  | .danglingDdDd => [0xDD, 0xDD]
  | .danglingDdFd => [0xDD, 0xFD]
  | .danglingDdEd => [0xDD, 0xED]
  | .ddCb d op => [0xDD, 0xCB, d, op]
  | .addIxRp p => [0xDD, opcode 0 (2 * p.code + 1) 1]
  | .ldIxNn nn => [0xDD, 0x21, nn.lo, nn.hi]
  | .ldMemNnIx nn => [0xDD, 0x22, nn.lo, nn.hi]
  | .ldIxMemNn nn => [0xDD, 0x2A, nn.lo, nn.hi]
  | .incIx => [0xDD, 0x23]
  | .decIx => [0xDD, 0x2B]
  | .incIxHalf h => [0xDD, opcode 0 h.code 4]
  | .decIxHalf h => [0xDD, opcode 0 h.code 5]
  | .ldIxHalfN h n => [0xDD, opcode 0 h.code 6, n]
  | .incMemIx d => [0xDD, 0x34, d]
  | .decMemIx d => [0xDD, 0x35, d]
  | .ldMemIxN d n => [0xDD, 0x36, d, n]
  | .ldRMemIx r d => [0xDD, opcode 1 r.code 6, d]
  | .ldMemIxR d r => [0xDD, opcode 1 6 r.code, d]
  | .ldIxHalfR h r => [0xDD, opcode 1 h.code r.code]
  | .ldRIxHalf r h => [0xDD, opcode 1 r.code h.code]
  | .addAIxHalf h => [0xDD, opcode 2 0 h.code]
  | .addAMemIx d => [0xDD, 0x86, d]
  | .adcAIxHalf h => [0xDD, opcode 2 1 h.code]
  | .adcAMemIx d => [0xDD, 0x8E, d]
  | .subIxHalf h => [0xDD, opcode 2 2 h.code]
  | .subMemIx d => [0xDD, 0x96, d]
  | .sbcAIxHalf h => [0xDD, opcode 2 3 h.code]
  | .sbcAMemIx d => [0xDD, 0x9E, d]
  | .andIxHalf h => [0xDD, opcode 2 4 h.code]
  | .andMemIx d => [0xDD, 0xA6, d]
  | .xorIxHalf h => [0xDD, opcode 2 5 h.code]
  | .xorMemIx d => [0xDD, 0xAE, d]
  | .orIxHalf h => [0xDD, opcode 2 6 h.code]
  | .orMemIx d => [0xDD, 0xB6, d]
  | .cpIxHalf h => [0xDD, opcode 2 7 h.code]
  | .cpMemIx d => [0xDD, 0xBE, d]
  | .popIx => [0xDD, 0xE1]
  | .exMemSpIx => [0xDD, 0xE3]
  | .pushIx => [0xDD, 0xE5]
  | .jpIx => [0xDD, 0xE9]
  | .ldSpIx => [0xDD, 0xF9]
  | .fallThroughDD i => 0xDD :: encode i
  | .danglingFdDd => [0xFD, 0xDD]
  | .danglingFdFd => [0xFD, 0xFD]
  | .danglingFdEd => [0xFD, 0xED]
  | .fdCb d op => [0xFD, 0xCB, d, op]
  | .addIyRp p => [0xFD, opcode 0 (2 * p.code + 1) 1]
  | .ldIyNn nn => [0xFD, 0x21, nn.lo, nn.hi]
  | .ldMemNnIy nn => [0xFD, 0x22, nn.lo, nn.hi]
  | .ldIyMemNn nn => [0xFD, 0x2A, nn.lo, nn.hi]
  | .incIy => [0xFD, 0x23]
  | .decIy => [0xFD, 0x2B]
  | .incIyHalf h => [0xFD, opcode 0 h.code 4]
  | .decIyHalf h => [0xFD, opcode 0 h.code 5]
  | .ldIyHalfN h n => [0xFD, opcode 0 h.code 6, n]
  | .incMemIy d => [0xFD, 0x34, d]
  | .decMemIy d => [0xFD, 0x35, d]
  | .ldMemIyN d n => [0xFD, 0x36, d, n]
  | .ldRMemIy r d => [0xFD, opcode 1 r.code 6, d]
  | .ldMemIyR d r => [0xFD, opcode 1 6 r.code, d]
  | .ldIyHalfR h r => [0xFD, opcode 1 h.code r.code]
  | .ldRIyHalf r h => [0xFD, opcode 1 r.code h.code]
  | .addAIyHalf h => [0xFD, opcode 2 0 h.code]
  | .addAMemIy d => [0xFD, 0x86, d]
  | .adcAIyHalf h => [0xFD, opcode 2 1 h.code]
  | .adcAMemIy d => [0xFD, 0x8E, d]
  | .subIyHalf h => [0xFD, opcode 2 2 h.code]
  | .subMemIy d => [0xFD, 0x96, d]
  | .sbcAIyHalf h => [0xFD, opcode 2 3 h.code]
  | .sbcAMemIy d => [0xFD, 0x9E, d]
  | .andIyHalf h => [0xFD, opcode 2 4 h.code]
  | .andMemIy d => [0xFD, 0xA6, d]
  | .xorIyHalf h => [0xFD, opcode 2 5 h.code]
  | .xorMemIy d => [0xFD, 0xAE, d]
  | .orIyHalf h => [0xFD, opcode 2 6 h.code]
  | .orMemIy d => [0xFD, 0xB6, d]
  | .cpIyHalf h => [0xFD, opcode 2 7 h.code]
  | .cpMemIy d => [0xFD, 0xBE, d]
  | .popIy => [0xFD, 0xE1]
  | .exMemSpIy => [0xFD, 0xE3]
  | .pushIy => [0xFD, 0xE5]
  | .jpIy => [0xFD, 0xE9]
  | .ldSpIy => [0xFD, 0xF9]
  | .fallThroughFD i => 0xFD :: encode i
  | .rlcMemIx d => [0xDD, 0xCB, d, 0x06]
  | .rlcMemIxR d r => [0xDD, 0xCB, d, opcode 0 0 r.code]
  | .rrcMemIx d => [0xDD, 0xCB, d, 0x0E]
  | .rrcMemIxR d r => [0xDD, 0xCB, d, opcode 0 1 r.code]
  | .rlMemIx d => [0xDD, 0xCB, d, 0x16]
  | .rlMemIxR d r => [0xDD, 0xCB, d, opcode 0 2 r.code]
  | .rrMemIx d => [0xDD, 0xCB, d, 0x1E]
  | .rrMemIxR d r => [0xDD, 0xCB, d, opcode 0 3 r.code]
  | .slaMemIx d => [0xDD, 0xCB, d, 0x26]
  | .slaMemIxR d r => [0xDD, 0xCB, d, opcode 0 4 r.code]
  | .sraMemIx d => [0xDD, 0xCB, d, 0x2E]
  | .sraMemIxR d r => [0xDD, 0xCB, d, opcode 0 5 r.code]
  | .sllMemIx d => [0xDD, 0xCB, d, 0x36]
  | .sllMemIxR d r => [0xDD, 0xCB, d, opcode 0 6 r.code]
  | .srlMemIx d => [0xDD, 0xCB, d, 0x3E]
  | .srlMemIxR d r => [0xDD, 0xCB, d, opcode 0 7 r.code]
  | .bitMemIx b d z => [0xDD, 0xCB, d, opcode 1 b.val z.val]
  | .resMemIx b d => [0xDD, 0xCB, d, opcode 2 b.val 6]
  | .resMemIxR b d r => [0xDD, 0xCB, d, opcode 2 b.val r.code]
  | .setMemIx b d => [0xDD, 0xCB, d, opcode 3 b.val 6]
  | .setMemIxR b d r => [0xDD, 0xCB, d, opcode 3 b.val r.code]
  | .rlcMemIy d => [0xFD, 0xCB, d, 0x06]
  | .rlcMemIyR d r => [0xFD, 0xCB, d, opcode 0 0 r.code]
  | .rrcMemIy d => [0xFD, 0xCB, d, 0x0E]
  | .rrcMemIyR d r => [0xFD, 0xCB, d, opcode 0 1 r.code]
  | .rlMemIy d => [0xFD, 0xCB, d, 0x16]
  | .rlMemIyR d r => [0xFD, 0xCB, d, opcode 0 2 r.code]
  | .rrMemIy d => [0xFD, 0xCB, d, 0x1E]
  | .rrMemIyR d r => [0xFD, 0xCB, d, opcode 0 3 r.code]
  | .slaMemIy d => [0xFD, 0xCB, d, 0x26]
  | .slaMemIyR d r => [0xFD, 0xCB, d, opcode 0 4 r.code]
  | .sraMemIy d => [0xFD, 0xCB, d, 0x2E]
  | .sraMemIyR d r => [0xFD, 0xCB, d, opcode 0 5 r.code]
  | .sllMemIy d => [0xFD, 0xCB, d, 0x36]
  | .sllMemIyR d r => [0xFD, 0xCB, d, opcode 0 6 r.code]
  | .srlMemIy d => [0xFD, 0xCB, d, 0x3E]
  | .srlMemIyR d r => [0xFD, 0xCB, d, opcode 0 7 r.code]
  | .bitMemIy b d z => [0xFD, 0xCB, d, opcode 1 b.val z.val]
  | .resMemIy b d => [0xFD, 0xCB, d, opcode 2 b.val 6]
  | .resMemIyR b d r => [0xFD, 0xCB, d, opcode 2 b.val r.code]
  | .setMemIy b d => [0xFD, 0xCB, d, opcode 3 b.val 6]
  | .setMemIyR b d r => [0xFD, 0xCB, d, opcode 3 b.val r.code]

/-- How many bytes the instruction takes (rule R90): all of its bytes, or the prefix alone when it dangles. -/
def Instr.length (i : Instr) : Nat :=
  match i with
  | .danglingDdDd => 1
  | .danglingDdFd => 1
  | .danglingDdEd => 1
  | .danglingFdDd => 1
  | .danglingFdFd => 1
  | .danglingFdEd => 1
  | i => (encode i).length

/-- Why a list of bytes is not decoded. -/
inductive DecodeError where
  /-- The list ends inside the instruction. -/
  | truncated
deriving DecidableEq, Repr

/-- What decoding a list of bytes answers: an instruction with the bytes after it, or a rejection. -/
inductive Decoded where
  | ok (i : Instr) (rest : List Byte)
  | rejected (e : DecodeError)
deriving DecidableEq, Repr

/-- The instruction at the start of a list of bytes (rule R106). -/
def decode (bytes : List Byte) : Decoded :=
  let i := decodeBytes (bytes.getD 0 0) (bytes.getD 1 0) (bytes.getD 2 0) (bytes.getD 3 0)
  if (encode i).length ≤ bytes.length then .ok i (bytes.drop i.length) else .rejected .truncated

/-! ### The table's bit numbering (30_encoding.md rule R110; log entry 19) -/

/-- Byte `k` of the instruction whose lowest `nbits` bits are those of `w` and whose other bits are 0; byte 0 is fetched
first. -/
def tableByte (nbits w k : Nat) : Byte := BitVec.ofNat 8 (w % 2 ^ nbits / 2 ^ (8 * k))

/-- The four bytes of that instruction, in address order: the longest instruction has four. -/
def tableBytes (nbits w : Nat) : List Byte := [tableByte nbits w 0, tableByte nbits w 1, tableByte nbits w 2, tableByte nbits w 3]

/-- The instruction the decoder reads from an instruction whose bits are `w`, numbered from the first byte on. -/
def decodeTableWord (nbits w : Nat) : Option Instr :=
  match decode (tableBytes nbits w) with
  | .ok i _ => some i
  | .rejected _ => none

end Sys2Proof
end

