-- ==== Sys2Proof/Machine/Flags.lean ====
section
/-! DEFINITION. The flag masks (10_state.md rule R24), the flag tables and the arithmetic flag generator
(40_engine.md rules R130 to R149), and the flag computations of the instruction rules that are not in the generator
(DAA, the block instructions, BIT). A generator function answers the result and the new F. -/

namespace Sys2Proof.Machine

/-- The mask of S (rule R24). -/
def flagS : Byte := 0x80
/-- The mask of Z. -/
def flagZ : Byte := 0x40
/-- The mask of F.5. -/
def flag5 : Byte := 0x20
/-- The mask of H. -/
def flagH : Byte := 0x10
/-- The mask of F.3. -/
def flag3 : Byte := 0x08
/-- The mask of PV. -/
def flagPV : Byte := 0x04
/-- The mask of N. -/
def flagN : Byte := 0x02
/-- The mask of C. -/
def flagC : Byte := 0x01

/-- `cond ? mask : 0`. -/
def flagIf (cond : Bool) (mask : Byte) : Byte := if cond then mask else 0

/-- The table `sz53` (rule R130). -/
def sz53 (v : Byte) : Byte := if v = 0 then 0x40 else v &&& 0xA8

/-- The number of 1 bits (00_scope.md rule R11). -/
def popcount (v : Byte) : Nat :=
  (v.getLsbD 0).toNat + (v.getLsbD 1).toNat + (v.getLsbD 2).toNat + (v.getLsbD 3).toNat +
  (v.getLsbD 4).toNat + (v.getLsbD 5).toNat + (v.getLsbD 6).toNat + (v.getLsbD 7).toNat

/-- The table `parity` (rule R131). -/
def parity (v : Byte) : Byte := flagIf (popcount v % 2 == 0) flagPV

/-- The table `sz53p` (rule R132). -/
def sz53p (v : Byte) : Byte := sz53 v ||| parity v

/-- The half-carry/overflow hash index (rule R133). -/
def hidx (a b res : Byte) (k : Nat) : Nat :=
  (res.getLsbD k).toNat * 4 + (b.getLsbD k).toNat * 2 + (a.getLsbD k).toNat

/-- `HC_ADD` (rule R134). -/
def hcAdd : List Byte := [0x00, 0x10, 0x10, 0x10, 0x00, 0x00, 0x00, 0x10]
/-- `HC_SUB` (rule R135). -/
def hcSub : List Byte := [0x00, 0x00, 0x10, 0x00, 0x10, 0x00, 0x10, 0x10]
/-- `OV_ADD` (rule R136). -/
def ovAdd : List Byte := [0x00, 0x00, 0x00, 0x04, 0x04, 0x00, 0x00, 0x00]
/-- `OV_SUB` (rule R137). -/
def ovSub : List Byte := [0x00, 0x04, 0x00, 0x00, 0x00, 0x00, 0x04, 0x00]

/-- The entry of a table at a hash index. -/
def lookup (table : List Byte) (index : Nat) : Byte := table.getD index 0

/-- `ADD8(a, b, cin)` (rule R140). -/
def add8 (a b : Byte) (cin : Bool) : Byte × Byte :=
  let t := a.toNat + b.toNat + cin.toNat
  let res : Byte := BitVec.ofNat 8 t
  (res, sz53 res ||| lookup hcAdd (hidx a b res 3) ||| lookup ovAdd (hidx a b res 7) ||| flagIf (decide (t > 255)) flagC)

/-- `SUB8(a, b, cin)` (rule R141). -/
def sub8 (a b : Byte) (cin : Bool) : Byte × Byte :=
  let t : Int := (a.toNat : Int) - b.toNat - cin.toNat
  let res : Byte := BitVec.ofInt 8 t
  (res, sz53 res ||| flagN ||| lookup hcSub (hidx a b res 3) ||| lookup ovSub (hidx a b res 7) |||
    flagIf (decide (t < 0)) flagC)

/-- The flags of `CP8(a, b)` (rule R142). -/
def cp8 (a b : Byte) : Byte := ((sub8 a b false).2 &&& 0xD7) ||| (b &&& 0x28)

/-- The flags of `LOGIC(res, h)` (rule R143). -/
def logic8 (res : Byte) (h : Bool) : Byte := sz53p res ||| flagIf h flagH

/-- `INC8(v)`, from the old F (rule R144). -/
def inc8 (f v : Byte) : Byte × Byte :=
  let res := v + 1
  (res, (f &&& flagC) ||| sz53 res ||| flagIf (res == 0x80) flagPV ||| flagIf (res &&& 0x0F == 0) flagH)

/-- `DEC8(v)`, from the old F (rule R145). -/
def dec8 (f v : Byte) : Byte × Byte :=
  let res := v - 1
  (res, (f &&& flagC) ||| flagN ||| sz53 res ||| flagIf (res == 0x7F) flagPV ||| flagIf (v &&& 0x0F == 0) flagH)

/-- `ADD16(a, b)`, from the old F (rule R146). -/
def add16 (f : Byte) (a b : Word) : Word × Byte :=
  let t := a.toNat + b.toNat
  let res : Word := BitVec.ofNat 16 t
  (res, (f &&& (flagS ||| flagZ ||| flagPV)) ||| (res.hi &&& 0x28) ||| lookup hcAdd (hidx a.hi b.hi res.hi 3) |||
    flagIf (decide (t > 65535)) flagC)

/-- `ADC16(a, b, cin)` (rule R147). -/
def adc16 (a b : Word) (cin : Bool) : Word × Byte :=
  let t := a.toNat + b.toNat + cin.toNat
  let res : Word := BitVec.ofNat 16 t
  (res, (res.hi &&& 0xA8) ||| flagIf (res == 0) flagZ ||| lookup hcAdd (hidx a.hi b.hi res.hi 3) |||
    lookup ovAdd (hidx a.hi b.hi res.hi 7) ||| flagIf (decide (t > 65535)) flagC)

/-- `SBC16(a, b, cin)` (rule R148). -/
def sbc16 (a b : Word) (cin : Bool) : Word × Byte :=
  let t : Int := (a.toNat : Int) - b.toNat - cin.toNat
  let res : Word := BitVec.ofInt 16 t
  (res, (res.hi &&& 0xA8) ||| flagIf (res == 0) flagZ ||| flagN ||| lookup hcSub (hidx a.hi b.hi res.hi 3) |||
    lookup ovSub (hidx a.hi b.hi res.hi 7) ||| flagIf (decide (t < 0)) flagC)

/-- `ROTF(res, cout)` (rule R149). -/
def rotFlags (res : Byte) (cout : Bool) : Byte := sz53p res ||| flagIf cout flagC

/-- The flags of RLCA, RRCA, RLA, RRA, from the old F, the new A and the bit shifted out (46_rotate_bit.md rules R390 to
R393). -/
def rotAFlags (f a : Byte) (cout : Bool) : Byte :=
  (f &&& (flagS ||| flagZ ||| flagPV)) ||| (a &&& 0x28) ||| flagIf cout flagC

/-- DAA from A and F (44_alu8.md rule R333). -/
def daa (a f : Byte) : Byte × Byte :=
  let add : Byte := if f.getLsbD 4 || decide ((a &&& 0x0F).toNat > 9) then 0x06 else 0
  let add : Byte := if f.getLsbD 0 || decide (a.toNat > 0x99) then add ||| 0x60 else add
  let c := f.getLsbD 0 || decide (a.toNat > 0x99)
  let h := if f.getLsbD 1 then f.getLsbD 4 && decide ((a &&& 0x0F).toNat < 6) else decide ((a &&& 0x0F).toNat > 9)
  let res := if f.getLsbD 1 then a - add else a + add
  (res, sz53p res ||| flagIf h flagH ||| (f &&& flagN) ||| flagIf c flagC)

/-- The flags of LD A,I and LD A,R, from the old F, the byte read and IFF2 (41_load8.md rules R216, R217). -/
def ldAirFlags (f v : Byte) (iff2 : Bool) : Byte := (f &&& flagC) ||| sz53 v ||| flagIf iff2 flagPV

/-- The flags of IN r,(C), IN F,(C), RLD and RRD, from the old F and the byte (48_io_cpu_control.md rules R481, R482;
46_rotate_bit.md rules R403, R404). -/
def inFlags (f v : Byte) : Byte := (f &&& flagC) ||| sz53p v

/-- The flags of LDI and LDD, from the old F, `n = v + A` and the new BC (43_block.md rule R282). -/
def ldiFlags (f n : Byte) (bc : Word) : Byte :=
  (f &&& (flagS ||| flagZ ||| flagC)) ||| flagIf (n.getLsbD 1) flag5 ||| flagIf (n.getLsbD 3) flag3 |||
    flagIf (bc != 0) flagPV

/-- The flags of CPI and CPD, from the old F, A, the byte compared and the new BC (43_block.md rule R286). -/
def cpiFlags (f a v : Byte) (bc : Word) : Byte :=
  let r := a - v
  let h := lookup hcSub (hidx a v r 3)
  let n := r - (if h != 0 then 1 else 0)
  (f &&& flagC) ||| (r &&& flagS) ||| flagIf (r == 0) flagZ ||| h ||| flagIf (n.getLsbD 1) flag5 |||
    flagIf (n.getLsbD 3) flag3 ||| flagIf (bc != 0) flagPV ||| flagN

/-- The flags of the block I/O instructions, from the new B, the byte moved and the sum `k` (43_block.md rules R290, R294). -/
def blockIoFlags (b v : Byte) (k : Nat) : Byte :=
  sz53 b ||| flagIf (decide (k > 255)) (flagH ||| flagC) ||| parity (BitVec.ofNat 8 (k % 8) ^^^ b) |||
    flagIf (v.getLsbD 7) flagN

/-- The flags of BIT, from the old F, the byte tested, the bit number and the byte that F.5 and F.3 come from
(46_rotate_bit.md rules R405 to R407). -/
def bitFlags (f v : Byte) (b : Fin 8) (x : Byte) : Byte :=
  let t := v.getLsbD b.val
  (f &&& flagC) ||| flagH ||| (x &&& 0x28) ||| flagIf (!t) (flagZ ||| flagPV) ||| flagIf (decide (b.val = 7) && t) flagS

/-- `old` with the bits of `mask` taken from `new`: how a draw replaces flag bits (92_eei_decisions.md D19). -/
def replaceBits (mask old new : Byte) : Byte := (old &&& ~~~mask) ||| (new &&& mask)

end Sys2Proof.Machine
end

