-- ==== Sys2Proof/Config.lean ====
section
/-! DEFINITION. What the platform or the host fixes, and the free values: the parameters of 00_scope.md rule R8 and the
draws of 92_eei_decisions.md D3, D11, D19. The free values have no body: nothing can be proved of which value they are. -/

namespace Sys2Proof

/-- The arguments of the reset operation (70_reset_and_hazards.md rule R570) and the OPEN reset value of the
decoding-error counter (10_state.md rule R38). Any signed 32-bit values are allowed (92_eei_decisions.md D38). -/
structure Config.ResetParams where
  cyclesPerPeriod : Count
  cyclesBeforeInterruptWindow : Count
  decodeErrInit : Count
deriving DecidableEq, Repr

/-- DESIGN CHOICE (log entries 8 and 9, unsafe): the arguments with which `State.reset` resets. The two cycle counts are
those of the environment of 92_eei_decisions.md D39; the spec leaves `DECODE_ERR_INIT` OPEN and 0 is the model's. -/
def Config.resetParams : Config.ResetParams :=
  { cyclesPerPeriod := 69888, cyclesBeforeInterruptWindow := 69856, decodeErrInit := 0 }

/-- `OUTC0_VALUE`, the byte OUT (C),0 writes: 0x00 (00_scope.md rule R8; log entry 21). -/
def Config.outC0Value : Byte := 0x00

/-- FREE VALUE (log entry 4): the n-th draw, when it is a byte of flag bits (92_eei_decisions.md D19). -/
opaque Config.freeFlags : Nat → Byte

/-- FREE VALUE (log entry 3): the n-th draw, when it is the byte a port read returns (20_memory.md rule R63) and the host
has prepared no byte in `State.portInput`. -/
opaque Config.freePortByte : Nat → Byte

/-- FREE VALUE (log entry 5): the n-th draw, when it is the timed variant's wait states `TimedWait`
(40_engine.md rule R163). -/
opaque Config.timedWait : Nat → Nat

end Sys2Proof
end

