-- ==== Sys2Proof/Machine/State.lean ====
section
/-! DEFINITION. The state of the machine: every field of 10_state.md, the memory of 20_memory.md, the host state a step
reads, and the model's own run context; the outcomes' reasons; reset (70_reset_and_hazards.md rule R570). -/

namespace Sys2Proof.Machine

/-- The value `idx` takes: which index register stands for HL (10_state.md rule R35). -/
inductive IndexSel where
  | none | ix | iy
deriving DecidableEq, Repr, Inhabited

/-- The interrupt mode IM (10_state.md rule R30). -/
inductive IntMode where
  | im0 | im1 | im2
deriving DecidableEq, Repr, Inhabited

/-- The three run variants (40_engine.md rule R155). -/
inductive Variant where
  | timed | nonContended | nonContendedNoInterrupt
deriving DecidableEq, Repr, Inhabited

/-- A hook call the model records (20_memory.md rules R63, R64, R72; 40_engine.md rules R162, R172). -/
inductive HookEvent where
  /-- `(IN, p, value)` -/
  | ioRead (port : Word) (value : Byte)
  /-- `(OUT, p, value)` -/
  | ioWrite (port : Word) (value : Byte)
  /-- The tape-loader hook was invoked. -/
  | tapeLoader
  /-- The hardware-sync hook was invoked. -/
  | hardwareSync
deriving DecidableEq, Repr

/-- A set of eight 8-bit registers, main or shadow (10_state.md rules R20, R21). -/
structure RegSet where
  a : Byte
  f : Byte
  b : Byte
  c : Byte
  d : Byte
  e : Byte
  h : Byte
  l : Byte
deriving DecidableEq, Repr, Inhabited

/-- The memory M (20_memory.md rule R61): the listed bytes, addresses strictly rising, no byte listed that equals what an
unlisted address reads as. -/
abbrev Memory := List Host.Cell

/-- What an unlisted address reads as. DESIGN CHOICE (log entry 1, unsafe): the spec gives no power-on content. -/
def Memory.blank : Byte := 0x00

/-- The canonical form, for addresses above `low`: rising, below 65,536, no blank byte listed. -/
def Memory.wfFrom : Nat → Memory → Bool
  | _, [] => true
  | low, (a, v) :: m => decide (low ≤ a) && decide (a < 65536) && (v != Memory.blank) && Memory.wfFrom (a + 1) m

/-- The canonical form of a memory. -/
def Memory.wf (m : Memory) : Bool := Memory.wfFrom 0 m

/-- The state of the machine. -/
structure State where
  /-- A, F, B, C, D, E, H, L (10_state.md rules R20, R24). -/
  main : RegSet
  /-- A', F', B', C', D', E', H', L' (rule R21). -/
  shadow : RegSet
  /-- IX (rule R22). -/
  ix : Word
  /-- IY (rule R22). -/
  iy : Word
  /-- The stack pointer (rule R23). -/
  sp : Word
  /-- The program counter (rule R26). -/
  pc : Word
  /-- The interrupt-vector-base register (rule R27). -/
  i : Byte
  /-- The memory-refresh register (rule R28). -/
  r : Byte
  /-- The interrupt-enable flip-flops (rule R29). -/
  iff1 : Bool
  iff2 : Bool
  /-- The interrupt mode (rule R30). -/
  im : IntMode
  /-- HALT has been executed and no acceptance or reset has followed (rule R31). -/
  halted : Bool
  /-- The cycle counter, counting down (rule R32). -/
  iCount : Count
  /-- The cycles per hardware-sync interval (rule R33). -/
  iPeriod : Count
  /-- The interrupt-window threshold (rule R34). -/
  iIntTime : Count
  /-- The index substitution of the instruction being decoded (rule R35). -/
  idx : IndexSel
  /-- The interrupt inhibit after EI or a dangling prefix (rule R36). -/
  intInhibit : Bool
  /-- The debug trap address and break-enable flag (rule R37). -/
  debugTrapAddr : Word
  breakEnable : Bool
  /-- The decoding-error counter (rule R38). -/
  decodeErrors : Count
  /-- The pending-interrupt field; `none` is its distinguished constant NONE (rule R39). -/
  iRequest : Option Word
  /-- The memory (20_memory.md rule R61). -/
  mem : Memory
  /-- Platform: the address ranges, ends included, where `MemWritable` is false (20_memory.md rule R62; log entry 2). -/
  readOnly : List (Word × Word)
  /-- Host: a tape load is in progress (40_engine.md rule R162; log entry 6). Inside a run call only the tape hook changes it
(DESIGN CHOICE: log entry 27). -/
  tapeActive : Bool
  /-- Host: the hook calls so far, oldest first (20_memory.md rule R72; log entry 7). -/
  events : List HookEvent
  /-- Host: the bytes ready to answer port reads, first to be used first (20_memory.md rule R63; log entry 3). -/
  portInput : List Byte
  /-- Model: the variant of the current run call (40_engine.md rule R155; log entry 10). -/
  variant : Variant
  /-- Model: the run-local counter `elapsed` (40_engine.md rule R151; log entry 11). -/
  elapsed : Int
  /-- Model: how many free values have been used (log entry 12). -/
  draws : Nat
deriving DecidableEq, Repr, Inhabited

/-- Why the machine stops with a fault: never. The block raises no exception (60_exceptions.md rule R520) and every address
exists (20_memory.md rule R69), so the type has no constructor (log entry 24). -/
inductive Fault where
deriving DecidableEq, Repr

/-- Why a step has no meaning. -/
inductive Refusal where
  /-- Raised by an arm of `exec` whose instruction has no meaning in the model yet; safe. No arm raises it. -/
  | notModelled (mnemonic : String)
  /-- Raised by a fall-through or prefix row given an instruction term that its table does not hold; safe, and no byte
  sequence decodes to such a term (log entry 15). -/
  | notInTable
deriving DecidableEq, Repr

/-- What an instruction or a step answers. -/
abbrev Result := Host.Outcome State Fault Refusal

/-- A register set of zeros (70_reset_and_hazards.md rule R570). -/
def RegSet.zero : RegSet := { a := 0, f := 0, b := 0, c := 0, d := 0, e := 0, h := 0, l := 0 }

/-- `reset(state, cyclesPerPeriod, cyclesBeforeInterruptWindow)` (70_reset_and_hazards.md rule R570): every field of the
core at its reset value; memory, platform, host and run context untouched. -/
def State.resetWith (p : Config.ResetParams) (s : State) : State :=
  { s with
    main := RegSet.zero, shadow := RegSet.zero, ix := 0, iy := 0, sp := 0xF000, pc := 0, i := 0, r := 0
    iff1 := false, iff2 := false, im := .im0, halted := false
    iCount := p.cyclesPerPeriod, iPeriod := p.cyclesPerPeriod, iIntTime := p.cyclesBeforeInterruptWindow
    idx := .none, intInhibit := false, debugTrapAddr := 0, breakEnable := false
    decodeErrors := p.decodeErrInit, iRequest := none }

/-- The machine right after reset, with nothing in memory. The core's fields are rule R570's for the arguments
`Config.resetParams` (log entries 8, 9); the host's and the model's own fields are DESIGN CHOICES (log entries 1, 2, 3, 6,
7, 10, 11, 12). -/
def State.reset : State :=
  State.resetWith Config.resetParams
    { main := RegSet.zero, shadow := RegSet.zero, ix := 0, iy := 0, sp := 0, pc := 0, i := 0, r := 0
      iff1 := false, iff2 := false, im := .im0, halted := false, iCount := 0, iPeriod := 0, iIntTime := 0
      idx := .none, intInhibit := false, debugTrapAddr := 0, breakEnable := false, decodeErrors := 0, iRequest := none
      mem := [], readOnly := [], tapeActive := false, events := [], portInput := []
      variant := .nonContended, elapsed := 0, draws := 0 }

end Sys2Proof.Machine
end

