-- ==== Sys2Proof/Machine/Ops.lean ====
section
/-! DEFINITION. The named operations over memory, registers, hooks and the cycle counter; the prologue and the end of a
step; taking an interrupt and returning from one. -/

namespace Sys2Proof.Machine

/-! ### Memory (20_memory.md) -/

/-- The byte at address `a`. -/
def Memory.read (m : Memory) (a : Nat) : Byte :=
  match m with
  | [] => Memory.blank
  | (b, v) :: m => if a = b then v else Memory.read m a

/-- The memory with `v` at address `a`, in canonical form. -/
def Memory.write (m : Memory) (a : Nat) (v : Byte) : Memory :=
  match m with
  | [] => if v = Memory.blank then [] else [(a, v)]
  | (b, w) :: m =>
    if a < b then (if v = Memory.blank then (b, w) :: m else (a, v) :: (b, w) :: m)
    else if a = b then (if v = Memory.blank then m else (a, v) :: m)
    else (b, w) :: Memory.write m a v

/-- The memory after a list of stores, in order. -/
def Memory.storeAll (m : Memory) : List (Word × Byte) → Memory
  | [] => m
  | (a, v) :: l => Memory.storeAll (Memory.write m a.toNat v) l

/-- `MemRead(a, 1)` (rule R61). -/
def State.readByte (s : State) (a : Word) : Byte := Memory.read s.mem a.toNat

/-- `MemWritable(a)` (rule R62). -/
def State.writable (s : State) (a : Word) : Bool :=
  !(s.readOnly.any fun range => decide (range.1.toNat ≤ a.toNat) && decide (a.toNat ≤ range.2.toNat))

/-- `MemWrite(a, 1, v)` (rule R62). -/
def State.writeByte (s : State) (a : Word) (v : Byte) : State :=
  { s with mem := if s.writable a then Memory.write s.mem a.toNat v else s.mem }

/-- `MemRead16(a)` (00_scope.md rule R12). -/
def State.readWord (s : State) (a : Word) : Word := Word.mk (s.readByte (a + 1)) (s.readByte a)

/-- `MemWrite16(a, v)`: the low byte at `a`, then the high byte at `a + 1` (00_scope.md rule R12). -/
def State.writeWord (s : State) (a v : Word) : State := (s.writeByte a v.lo).writeByte (a + 1) v.hi

/-- `bytes` placed by the host at the addresses from `a` on, whether or not the core may write there. -/
def State.placeBytes (s : State) (a : Word) : List Byte → State
  | [] => s
  | v :: l => State.placeBytes { s with mem := Memory.write s.mem a.toNat v } (a + 1) l

/-- `Push16(v)`: the high byte at SP - 1, then the low byte at SP - 2 (00_scope.md rule R12, 20_memory.md rule R71 d). -/
def State.push16 (s : State) (v : Word) : State :=
  let s := { s with sp := s.sp - 1 }
  let s := s.writeByte s.sp v.hi
  let s := { s with sp := s.sp - 1 }
  s.writeByte s.sp v.lo

/-- `Pop16()`: the value and the state with SP advanced (00_scope.md rule R12). -/
def State.pop16 (s : State) : Word × State := (s.readWord s.sp, { s with sp := s.sp + 2 })

/-! ### Registers (10_state.md) -/

/-- A pair, the first-named register high (rule R20). -/
def State.bc (s : State) : Word := Word.mk s.main.b s.main.c
/-- DE. -/
def State.de (s : State) : Word := Word.mk s.main.d s.main.e
/-- HL, never substituted. -/
def State.hl (s : State) : Word := Word.mk s.main.h s.main.l
/-- AF. -/
def State.af (s : State) : Word := Word.mk s.main.a s.main.f
/-- Write A. -/
def State.setA (s : State) (v : Byte) : State := { s with main := { s.main with a := v } }
/-- Write F. -/
def State.setF (s : State) (v : Byte) : State := { s with main := { s.main with f := v } }
/-- Write B. -/
def State.setB (s : State) (v : Byte) : State := { s with main := { s.main with b := v } }
/-- Write BC. -/
def State.setBC (s : State) (v : Word) : State := { s with main := { s.main with b := v.hi, c := v.lo } }
/-- Write DE. -/
def State.setDE (s : State) (v : Word) : State := { s with main := { s.main with d := v.hi, e := v.lo } }
/-- Write HL, never substituted. -/
def State.setHL (s : State) (v : Word) : State := { s with main := { s.main with h := v.hi, l := v.lo } }
/-- Write AF. -/
def State.setAF (s : State) (v : Word) : State := { s with main := { s.main with a := v.hi, f := v.lo } }

/-- F.C. -/
def State.carry (s : State) : Bool := s.main.f.getLsbD 0

/-- One increment of R: bits 6..0 modulo 128, bit 7 kept (rule R28). -/
def bumpR (r : Byte) : Byte := (r &&& 0x80) ||| ((r + 1) &&& 0x7F)

/-- `n` increments of R. -/
def bumpRTimes : Nat → Byte → Byte
  | 0, r => r
  | n + 1, r => bumpRTimes n (bumpR r)

/-! ### Draws and hooks -/

/-- The next free byte of flag bits (92_eei_decisions.md D19; log entry 4), and the state that has used it. -/
def State.drawFlags (s : State) : Byte × State := (Config.freeFlags s.draws, { s with draws := s.draws + 1 })

/-- F with the bits of `mask` replaced by a draw (92_eei_decisions.md D19). -/
def State.drawIntoF (s : State) (mask : Byte) : State :=
  s.drawFlags.2.setF (replaceBits mask s.main.f s.drawFlags.1)

/-- `IORead(p)` (20_memory.md rule R63; log entry 3): the host's next prepared byte, or a free value; the read is an event.
DESIGN CHOICE: the hook leaves `tapeActive` as it is (log entry 27, unsafe). -/
def State.ioRead (s : State) (p : Word) : Byte × State :=
  match s.portInput with
  | v :: l => (v, { s with portInput := l, events := s.events ++ [.ioRead p v] })
  | [] =>
    let v := Config.freePortByte s.draws
    (v, { s with draws := s.draws + 1, events := s.events ++ [.ioRead p v] })

/-- `IOWrite(p, v)` (20_memory.md rule R64): an event, no other effect. DESIGN CHOICE: the hook leaves `tapeActive` as it is
(log entry 27, unsafe). -/
def State.ioWrite (s : State) (p : Word) (v : Byte) : State := { s with events := s.events ++ [.ioWrite p v] }

/-! ### The frame of an instruction (40_engine.md) -/

/-- The fetch of `len` bytes: PC advanced past them, R incremented `rinc` times (rules R157, R158), no substitution in
force until a prefix selects one (rules R159, R170). -/
def State.fetched (s : State) (len rinc : Nat) : State :=
  { s with pc := s.pc + BitVec.ofNat 16 len, r := bumpRTimes rinc s.r, idx := .none }

/-- `idx <- x`: the substitution a DD or FD prefix selects (rule R165). -/
def State.select (s : State) (x : IndexSel) : State := { s with idx := x }

/-- `ICount <- ICount - n; elapsed <- elapsed + n` (rule R160). -/
def State.charge (s : State) (n : Nat) : State :=
  { s with iCount := s.iCount - BitVec.ofNat 32 n, elapsed := s.elapsed + n }

/-- The end of an instruction: its cost charged (rule R160), intInhibit updated (rule R171), `idx <- none` (rule R165). -/
def State.retire (s : State) (cost : Nat) (inhibit : Bool := false) : State :=
  { s.charge cost with intInhibit := inhibit, idx := .none }

/-- An instruction of `len` bytes outside the DD/FD tables: fetch, effect, end. -/
def perform (len rinc cost : Nat) (effect : State → State) (s : State) : Result :=
  .next ((effect (s.fetched len rinc)).retire cost)

/-- An instruction of the DD (`x = ix`) or FD (`x = iy`) table: fetch, substitution, effect, end (rule R165). -/
def performIndexed (x : IndexSel) (len cost : Nat) (effect : State → State) (s : State) : Result :=
  .next ((effect ((s.fetched len 2).select x)).retire cost)

/-- The halt rewind (rule R156). -/
def State.haltRewind (s : State) : State := if s.halted then { s with pc := s.pc - 1 } else s

/-! ### Interrupts (60_exceptions.md) -/

/-- The vector address of mode 2, `I:0xFF` (rule R529). -/
def State.vectorAddress (s : State) : Word := Word.mk s.i 0xFF

/-- The cost of an acceptance by mode (rule R530). -/
def acceptCost : IntMode → Nat
  | .im0 => 13
  | .im1 => 13
  | .im2 => 19

/-- Steps (1) to (4) of Accept (rule R525): halted cleared, PC pushed, IFF1 and IFF2 cleared, PC set by IM (rules R527 to
R529), the vector read after the push. -/
def State.takeInterrupt (s : State) : State :=
  let s := { s with halted := false }
  let s := s.push16 s.pc
  let s := { s with iff1 := false, iff2 := false }
  match s.im with
  | .im0 => { s with pc := 0x0038 }
  | .im1 => { s with pc := 0x0038 }
  | .im2 => { s with pc := s.readWord s.vectorAddress }

/-- Accept(state) with its cost (rules R525, R530): nothing and 0 if IFF1 = 0. -/
def State.accept (s : State) : State × Nat := if s.iff1 then (s.takeInterrupt, acceptCost s.im) else (s, 0)

/-- The return of RETI and RETN: IFF2 into IFF1, PC popped (47_control.md rules R451, R452). -/
def State.returnFromInterrupt (s : State) : State :=
  { s.pop16.2 with iff1 := s.iff2, pc := s.pop16.1 }

end Sys2Proof.Machine
end

