-- ==== Sys2Proof/Machine/Operands.lean ====
section
/-! DEFINITION. Every operand form: register codes and pair codes, plain and substituted; the indexed address; conditions
(30_encoding.md rules R93 to R95, R99; 40_engine.md rule R165; 47_control.md rule R440). -/

namespace Sys2Proof.Machine

/-- The register of a set that a code names (rule R93). -/
def RegSet.get (m : RegSet) : Reg8 → Byte
  | .b => m.b
  | .c => m.c
  | .d => m.d
  | .e => m.e
  | .h => m.h
  | .l => m.l
  | .a => m.a

/-- The set with the register that a code names written (rule R93). -/
def RegSet.set (m : RegSet) (r : Reg8) (v : Byte) : RegSet :=
  match r with
  | .b => { m with b := v }
  | .c => { m with c := v }
  | .d => { m with d := v }
  | .e => { m with e := v }
  | .h => { m with h := v }
  | .l => { m with l := v }
  | .a => { m with a := v }

/-- `r[code]` without substitution (rule R93). -/
def State.reg (s : State) (r : Reg8) : Byte := s.main.get r

/-- `r[code] <- v` without substitution (rule R93). -/
def State.setReg (s : State) (r : Reg8) (v : Byte) : State := { s with main := s.main.set r v }

/-- HL under the substitution in force: HL, IX or IY (40_engine.md rule R165). -/
def State.hlx (s : State) : Word :=
  match s.idx with
  | .none => s.hl
  | .ix => s.ix
  | .iy => s.iy

/-- Write HL under the substitution in force. -/
def State.setHlx (s : State) (v : Word) : State :=
  match s.idx with
  | .none => s.setHL v
  | .ix => { s with ix := v }
  | .iy => { s with iy := v }

/-- The high or low byte of HL under the substitution in force: IXYH, IXYL. -/
def State.half (s : State) : Half → Byte
  | .high => s.hlx.hi
  | .low => s.hlx.lo

/-- Write one byte of HL under the substitution in force; the other byte is unchanged (41_load8.md rule R215). -/
def State.setHalf (s : State) (h : Half) (v : Byte) : State :=
  match h with
  | .high => s.setHlx (Word.mk v s.hlx.lo)
  | .low => s.setHlx (Word.mk s.hlx.hi v)

/-- `r[code]` of a form without a memory operand under the substitution in force: codes 4 and 5 are the halves
(rule R93, 40_engine.md rule R165). -/
def State.regx (s : State) : Reg8 → Byte
  | .h => s.half .high
  | .l => s.half .low
  | r => s.reg r

/-- `rp[code]` under the substitution in force (rule R94). -/
def State.pair (s : State) : Pair → Word
  | .bc => s.bc
  | .de => s.de
  | .hl => s.hlx
  | .sp => s.sp

/-- `rp[code] <- v` under the substitution in force (rule R94). -/
def State.setPair (s : State) (p : Pair) (v : Word) : State :=
  match p with
  | .bc => s.setBC v
  | .de => s.setDE v
  | .hl => s.setHlx v
  | .sp => { s with sp := v }

/-- `rp2[code]` without substitution (rule R94). -/
def State.stackPair (s : State) : StackPair → Word
  | .bc => s.bc
  | .de => s.de
  | .hl => s.hl
  | .af => s.af

/-- `rp2[code] <- v` without substitution (rule R94). -/
def State.setStackPair (s : State) (p : StackPair) (v : Word) : State :=
  match p with
  | .bc => s.setBC v
  | .de => s.setDE v
  | .hl => s.setHL v
  | .af => s.setAF v

/-- The address of `(IX+d)` or `(IY+d)` (rules R99, R14). -/
def State.indexed (s : State) (d : Byte) : Word := s.hlx + sext16 d

/-- `cond(cc)` (47_control.md rule R440). -/
def State.cond (s : State) : Cond → Bool
  | .nz => !s.main.f.getLsbD 6
  | .z => s.main.f.getLsbD 6
  | .nc => !s.main.f.getLsbD 0
  | .c => s.main.f.getLsbD 0
  | .po => !s.main.f.getLsbD 2
  | .pe => s.main.f.getLsbD 2
  | .p => !s.main.f.getLsbD 7
  | .m => s.main.f.getLsbD 7

/-- `PC <- PC + sext_16(e)`: the jump of JR, JR cc and DJNZ (47_control.md rule R443). -/
def State.jumpRelative (s : State) (e : Byte) : State := { s with pc := s.pc + sext16 e }

/-- `PC <- PC - 2`: a repeating block instruction points at its ED byte again (43_block.md rule R280). -/
def State.rewindBlock (s : State) : State := { s with pc := s.pc - 2 }

end Sys2Proof.Machine
end

