-- ==== Sys2Proof/Machine/Alu16.lean ====
section
/-! DEFINITION. The 16-bit arithmetic instructions (45_alu16.md). -/

namespace Sys2Proof.Machine

/-- ADD HL,rp under the substitution in force: HL and `rp[2]` are both the substituted pair (R370, R371). -/
def State.addPair (t : State) (p : Pair) : State :=
  (t.setHlx (add16 t.main.f t.hlx (t.pair p)).1).setF (add16 t.main.f t.hlx (t.pair p)).2

/-- ADD HL,rp (R370). -/
def execAddHlRp (p : Pair) (s : State) : Result := perform 1 1 11 (fun t => t.addPair p) s

/-- ADC HL,rp (R372). -/
def execAdcHlRp (p : Pair) (s : State) : Result :=
  perform 2 2 15 (fun t => (t.setHL (adc16 t.hl (t.pair p) t.carry).1).setF (adc16 t.hl (t.pair p) t.carry).2) s

/-- SBC HL,rp (R373). -/
def execSbcHlRp (p : Pair) (s : State) : Result :=
  perform 2 2 15 (fun t => (t.setHL (sbc16 t.hl (t.pair p) t.carry).1).setF (sbc16 t.hl (t.pair p) t.carry).2) s

/-- INC rp (R374). -/
def execIncRp (p : Pair) (s : State) : Result := perform 1 1 6 (fun t => t.setPair p (t.pair p + 1)) s

/-- DEC rp (R375). -/
def execDecRp (p : Pair) (s : State) : Result := perform 1 1 6 (fun t => t.setPair p (t.pair p - 1)) s

/-- ADD IX,rp, with rp[2] = IX (R371). -/
def execAddIxRp (p : Pair) (s : State) : Result := performIndexed .ix 2 15 (fun t => t.addPair p) s

/-- INC IX (R374). -/
def execIncIx (s : State) : Result := performIndexed .ix 2 10 (fun t => t.setHlx (t.hlx + 1)) s

/-- DEC IX (R375). -/
def execDecIx (s : State) : Result := performIndexed .ix 2 10 (fun t => t.setHlx (t.hlx - 1)) s

/-- ADD IY,rp, with rp[2] = IY (R371). -/
def execAddIyRp (p : Pair) (s : State) : Result := performIndexed .iy 2 15 (fun t => t.addPair p) s

/-- INC IY (R374). -/
def execIncIy (s : State) : Result := performIndexed .iy 2 10 (fun t => t.setHlx (t.hlx + 1)) s

/-- DEC IY (R375). -/
def execDecIy (s : State) : Result := performIndexed .iy 2 10 (fun t => t.setHlx (t.hlx - 1)) s

end Sys2Proof.Machine
end

