-- ==== Sys2Proof/Machine/Alu8.lean ====
section
/-! DEFINITION. The 8-bit arithmetic and logic instructions (44_alu8.md): the eight operations once, then one meaning per
operation and operand source (rule R320). -/

namespace Sys2Proof.Machine

/-- A and F written from a generator's answer. -/
def State.setAcc (t : State) (res : Byte × Byte) : State := (t.setA res.1).setF res.2

/-- ADD A,s (R321). -/
def State.aluAdd (t : State) (v : Byte) : State := t.setAcc (add8 t.main.a v false)

/-- ADC A,s (R322). -/
def State.aluAdc (t : State) (v : Byte) : State := t.setAcc (add8 t.main.a v t.carry)

/-- SUB s (R323). -/
def State.aluSub (t : State) (v : Byte) : State := t.setAcc (sub8 t.main.a v false)

/-- SBC A,s (R324). -/
def State.aluSbc (t : State) (v : Byte) : State := t.setAcc (sub8 t.main.a v t.carry)

/-- AND s (R325). -/
def State.aluAnd (t : State) (v : Byte) : State := t.setAcc (t.main.a &&& v, logic8 (t.main.a &&& v) true)

/-- XOR s (R326). -/
def State.aluXor (t : State) (v : Byte) : State := t.setAcc (t.main.a ^^^ v, logic8 (t.main.a ^^^ v) false)

/-- OR s (R327). -/
def State.aluOr (t : State) (v : Byte) : State := t.setAcc (t.main.a ||| v, logic8 (t.main.a ||| v) false)

/-- CP s (R328): A is unchanged. -/
def State.aluCp (t : State) (v : Byte) : State := t.setF (cp8 t.main.a v)

/-- INC of a register (R329). -/
def State.incReg (t : State) (r : Reg8) : State := (t.setReg r (inc8 t.main.f (t.reg r)).1).setF (inc8 t.main.f (t.reg r)).2

/-- DEC of a register (R331). -/
def State.decReg (t : State) (r : Reg8) : State := (t.setReg r (dec8 t.main.f (t.reg r)).1).setF (dec8 t.main.f (t.reg r)).2

/-- INC of an index half (R329). -/
def State.incHalf (t : State) (h : Half) : State :=
  (t.setHalf h (inc8 t.main.f (t.half h)).1).setF (inc8 t.main.f (t.half h)).2

/-- DEC of an index half (R331). -/
def State.decHalf (t : State) (h : Half) : State :=
  (t.setHalf h (dec8 t.main.f (t.half h)).1).setF (dec8 t.main.f (t.half h)).2

/-- INC of the byte at `a`: one read, one write; F is written even where memory is not (R330). -/
def State.incMem (t : State) (a : Word) : State :=
  (t.writeByte a (inc8 t.main.f (t.readByte a)).1).setF (inc8 t.main.f (t.readByte a)).2

/-- DEC of the byte at `a` (R332). -/
def State.decMem (t : State) (a : Word) : State :=
  (t.writeByte a (dec8 t.main.f (t.readByte a)).1).setF (dec8 t.main.f (t.readByte a)).2

/-- ADD A,r (R321). -/
def execAddAR (r : Reg8) (s : State) : Result := perform 1 1 4 (fun t => t.aluAdd (t.reg r)) s

/-- ADD A,(HL) (R321). -/
def execAddAMemHl (s : State) : Result := perform 1 1 7 (fun t => t.aluAdd (t.readByte t.hl)) s

/-- ADD A,n (R321). -/
def execAddAN (n : Byte) (s : State) : Result := perform 2 1 7 (fun t => t.aluAdd n) s

/-- ADC A,r (R322). -/
def execAdcAR (r : Reg8) (s : State) : Result := perform 1 1 4 (fun t => t.aluAdc (t.reg r)) s

/-- ADC A,(HL) (R322). -/
def execAdcAMemHl (s : State) : Result := perform 1 1 7 (fun t => t.aluAdc (t.readByte t.hl)) s

/-- ADC A,n (R322). -/
def execAdcAN (n : Byte) (s : State) : Result := perform 2 1 7 (fun t => t.aluAdc n) s

/-- SUB r (R323). -/
def execSubR (r : Reg8) (s : State) : Result := perform 1 1 4 (fun t => t.aluSub (t.reg r)) s

/-- SUB (HL) (R323). -/
def execSubMemHl (s : State) : Result := perform 1 1 7 (fun t => t.aluSub (t.readByte t.hl)) s

/-- SUB n (R323). -/
def execSubN (n : Byte) (s : State) : Result := perform 2 1 7 (fun t => t.aluSub n) s

/-- SBC A,r (R324). -/
def execSbcAR (r : Reg8) (s : State) : Result := perform 1 1 4 (fun t => t.aluSbc (t.reg r)) s

/-- SBC A,(HL) (R324). -/
def execSbcAMemHl (s : State) : Result := perform 1 1 7 (fun t => t.aluSbc (t.readByte t.hl)) s

/-- SBC A,n (R324). -/
def execSbcAN (n : Byte) (s : State) : Result := perform 2 1 7 (fun t => t.aluSbc n) s

/-- AND r (R325). -/
def execAndR (r : Reg8) (s : State) : Result := perform 1 1 4 (fun t => t.aluAnd (t.reg r)) s

/-- AND (HL) (R325). -/
def execAndMemHl (s : State) : Result := perform 1 1 7 (fun t => t.aluAnd (t.readByte t.hl)) s

/-- AND n (R325). -/
def execAndN (n : Byte) (s : State) : Result := perform 2 1 7 (fun t => t.aluAnd n) s

/-- XOR r (R326). -/
def execXorR (r : Reg8) (s : State) : Result := perform 1 1 4 (fun t => t.aluXor (t.reg r)) s

/-- XOR (HL) (R326). -/
def execXorMemHl (s : State) : Result := perform 1 1 7 (fun t => t.aluXor (t.readByte t.hl)) s

/-- XOR n (R326). -/
def execXorN (n : Byte) (s : State) : Result := perform 2 1 7 (fun t => t.aluXor n) s

/-- OR r (R327). -/
def execOrR (r : Reg8) (s : State) : Result := perform 1 1 4 (fun t => t.aluOr (t.reg r)) s

/-- OR (HL) (R327). -/
def execOrMemHl (s : State) : Result := perform 1 1 7 (fun t => t.aluOr (t.readByte t.hl)) s

/-- OR n (R327). -/
def execOrN (n : Byte) (s : State) : Result := perform 2 1 7 (fun t => t.aluOr n) s

/-- CP r (R328). -/
def execCpR (r : Reg8) (s : State) : Result := perform 1 1 4 (fun t => t.aluCp (t.reg r)) s

/-- CP (HL) (R328). -/
def execCpMemHl (s : State) : Result := perform 1 1 7 (fun t => t.aluCp (t.readByte t.hl)) s

/-- CP n (R328). -/
def execCpN (n : Byte) (s : State) : Result := perform 2 1 7 (fun t => t.aluCp n) s

/-- INC r (R329). -/
def execIncR (r : Reg8) (s : State) : Result := perform 1 1 4 (fun t => t.incReg r) s

/-- INC (HL) (R330). -/
def execIncMemHl (s : State) : Result := perform 1 1 11 (fun t => t.incMem t.hl) s

/-- DEC r (R331). -/
def execDecR (r : Reg8) (s : State) : Result := perform 1 1 4 (fun t => t.decReg r) s

/-- DEC (HL) (R332). -/
def execDecMemHl (s : State) : Result := perform 1 1 11 (fun t => t.decMem t.hl) s

/-- DAA (R333). -/
def execDaa (s : State) : Result := perform 1 1 4 (fun t => t.setAcc (daa t.main.a t.main.f)) s

/-- CPL (R334): F.5 and F.3 from the new A. -/
def execCpl (s : State) : Result :=
  perform 1 1 4
    (fun t => t.setAcc (t.main.a ^^^ 0xFF,
      (t.main.f &&& (flagS ||| flagZ ||| flagPV ||| flagC)) ||| ((t.main.a ^^^ 0xFF) &&& 0x28) ||| flagH ||| flagN)) s

/-- NEG (R335), whatever the field `y` the encoding ignores. -/
def execNeg (_y : Fin 8) (s : State) : Result := perform 2 2 8 (fun t => t.setAcc (sub8 0 t.main.a false)) s

/-- CCF (R336): H is the old C, C is inverted, F.5 and F.3 are draws. -/
def execCcf (s : State) : Result :=
  perform 1 1 4
    (fun t => (t.setF ((t.main.f &&& (flagS ||| flagZ ||| flagPV)) ||| (if t.carry then flagH else flagC))).drawIntoF
      (flag5 ||| flag3)) s

/-- SCF (R337): F.5 and F.3 are draws. -/
def execScf (s : State) : Result :=
  perform 1 1 4
    (fun t => (t.setF ((t.main.f &&& (flagS ||| flagZ ||| flagPV)) ||| flagC)).drawIntoF (flag5 ||| flag3)) s

/-- ADD A,IXH and ADD A,IXL (R321). -/
def execAddAIxHalf (h : Half) (s : State) : Result := performIndexed .ix 2 8 (fun t => t.aluAdd (t.half h)) s

/-- ADD A,(IX+d) (R321). -/
def execAddAMemIx (d : Byte) (s : State) : Result :=
  performIndexed .ix 3 19 (fun t => t.aluAdd (t.readByte (t.indexed d))) s

/-- ADC A,IXH and ADC A,IXL (R322). -/
def execAdcAIxHalf (h : Half) (s : State) : Result := performIndexed .ix 2 8 (fun t => t.aluAdc (t.half h)) s

/-- ADC A,(IX+d) (R322). -/
def execAdcAMemIx (d : Byte) (s : State) : Result :=
  performIndexed .ix 3 19 (fun t => t.aluAdc (t.readByte (t.indexed d))) s

/-- SUB IXH and SUB IXL (R323). -/
def execSubIxHalf (h : Half) (s : State) : Result := performIndexed .ix 2 8 (fun t => t.aluSub (t.half h)) s

/-- SUB (IX+d) (R323). -/
def execSubMemIx (d : Byte) (s : State) : Result :=
  performIndexed .ix 3 19 (fun t => t.aluSub (t.readByte (t.indexed d))) s

/-- SBC A,IXH and SBC A,IXL (R324). -/
def execSbcAIxHalf (h : Half) (s : State) : Result := performIndexed .ix 2 8 (fun t => t.aluSbc (t.half h)) s

/-- SBC A,(IX+d) (R324). -/
def execSbcAMemIx (d : Byte) (s : State) : Result :=
  performIndexed .ix 3 19 (fun t => t.aluSbc (t.readByte (t.indexed d))) s

/-- AND IXH and AND IXL (R325). -/
def execAndIxHalf (h : Half) (s : State) : Result := performIndexed .ix 2 8 (fun t => t.aluAnd (t.half h)) s

/-- AND (IX+d) (R325). -/
def execAndMemIx (d : Byte) (s : State) : Result :=
  performIndexed .ix 3 19 (fun t => t.aluAnd (t.readByte (t.indexed d))) s

/-- XOR IXH and XOR IXL (R326). -/
def execXorIxHalf (h : Half) (s : State) : Result := performIndexed .ix 2 8 (fun t => t.aluXor (t.half h)) s

/-- XOR (IX+d) (R326). -/
def execXorMemIx (d : Byte) (s : State) : Result :=
  performIndexed .ix 3 19 (fun t => t.aluXor (t.readByte (t.indexed d))) s

/-- OR IXH and OR IXL (R327). -/
def execOrIxHalf (h : Half) (s : State) : Result := performIndexed .ix 2 8 (fun t => t.aluOr (t.half h)) s

/-- OR (IX+d) (R327). -/
def execOrMemIx (d : Byte) (s : State) : Result :=
  performIndexed .ix 3 19 (fun t => t.aluOr (t.readByte (t.indexed d))) s

/-- CP IXH and CP IXL (R328). -/
def execCpIxHalf (h : Half) (s : State) : Result := performIndexed .ix 2 8 (fun t => t.aluCp (t.half h)) s

/-- CP (IX+d) (R328). -/
def execCpMemIx (d : Byte) (s : State) : Result :=
  performIndexed .ix 3 19 (fun t => t.aluCp (t.readByte (t.indexed d))) s

/-- INC IXH and INC IXL (R329). -/
def execIncIxHalf (h : Half) (s : State) : Result := performIndexed .ix 2 8 (fun t => t.incHalf h) s

/-- DEC IXH and DEC IXL (R331). -/
def execDecIxHalf (h : Half) (s : State) : Result := performIndexed .ix 2 8 (fun t => t.decHalf h) s

/-- INC (IX+d) (R330). -/
def execIncMemIx (d : Byte) (s : State) : Result := performIndexed .ix 3 23 (fun t => t.incMem (t.indexed d)) s

/-- DEC (IX+d) (R332). -/
def execDecMemIx (d : Byte) (s : State) : Result := performIndexed .ix 3 23 (fun t => t.decMem (t.indexed d)) s

/-- ADD A,IYH and ADD A,IYL (R321). -/
def execAddAIyHalf (h : Half) (s : State) : Result := performIndexed .iy 2 8 (fun t => t.aluAdd (t.half h)) s

/-- ADD A,(IY+d) (R321). -/
def execAddAMemIy (d : Byte) (s : State) : Result :=
  performIndexed .iy 3 19 (fun t => t.aluAdd (t.readByte (t.indexed d))) s

/-- ADC A,IYH and ADC A,IYL (R322). -/
def execAdcAIyHalf (h : Half) (s : State) : Result := performIndexed .iy 2 8 (fun t => t.aluAdc (t.half h)) s

/-- ADC A,(IY+d) (R322). -/
def execAdcAMemIy (d : Byte) (s : State) : Result :=
  performIndexed .iy 3 19 (fun t => t.aluAdc (t.readByte (t.indexed d))) s

/-- SUB IYH and SUB IYL (R323). -/
def execSubIyHalf (h : Half) (s : State) : Result := performIndexed .iy 2 8 (fun t => t.aluSub (t.half h)) s

/-- SUB (IY+d) (R323). -/
def execSubMemIy (d : Byte) (s : State) : Result :=
  performIndexed .iy 3 19 (fun t => t.aluSub (t.readByte (t.indexed d))) s

/-- SBC A,IYH and SBC A,IYL (R324). -/
def execSbcAIyHalf (h : Half) (s : State) : Result := performIndexed .iy 2 8 (fun t => t.aluSbc (t.half h)) s

/-- SBC A,(IY+d) (R324). -/
def execSbcAMemIy (d : Byte) (s : State) : Result :=
  performIndexed .iy 3 19 (fun t => t.aluSbc (t.readByte (t.indexed d))) s

/-- AND IYH and AND IYL (R325). -/
def execAndIyHalf (h : Half) (s : State) : Result := performIndexed .iy 2 8 (fun t => t.aluAnd (t.half h)) s

/-- AND (IY+d) (R325). -/
def execAndMemIy (d : Byte) (s : State) : Result :=
  performIndexed .iy 3 19 (fun t => t.aluAnd (t.readByte (t.indexed d))) s

/-- XOR IYH and XOR IYL (R326). -/
def execXorIyHalf (h : Half) (s : State) : Result := performIndexed .iy 2 8 (fun t => t.aluXor (t.half h)) s

/-- XOR (IY+d) (R326). -/
def execXorMemIy (d : Byte) (s : State) : Result :=
  performIndexed .iy 3 19 (fun t => t.aluXor (t.readByte (t.indexed d))) s

/-- OR IYH and OR IYL (R327). -/
def execOrIyHalf (h : Half) (s : State) : Result := performIndexed .iy 2 8 (fun t => t.aluOr (t.half h)) s

/-- OR (IY+d) (R327). -/
def execOrMemIy (d : Byte) (s : State) : Result :=
  performIndexed .iy 3 19 (fun t => t.aluOr (t.readByte (t.indexed d))) s

/-- CP IYH and CP IYL (R328). -/
def execCpIyHalf (h : Half) (s : State) : Result := performIndexed .iy 2 8 (fun t => t.aluCp (t.half h)) s

/-- CP (IY+d) (R328). -/
def execCpMemIy (d : Byte) (s : State) : Result :=
  performIndexed .iy 3 19 (fun t => t.aluCp (t.readByte (t.indexed d))) s

/-- INC IYH and INC IYL (R329). -/
def execIncIyHalf (h : Half) (s : State) : Result := performIndexed .iy 2 8 (fun t => t.incHalf h) s

/-- DEC IYH and DEC IYL (R331). -/
def execDecIyHalf (h : Half) (s : State) : Result := performIndexed .iy 2 8 (fun t => t.decHalf h) s

/-- INC (IY+d) (R330). -/
def execIncMemIy (d : Byte) (s : State) : Result := performIndexed .iy 3 23 (fun t => t.incMem (t.indexed d)) s

/-- DEC (IY+d) (R332). -/
def execDecMemIy (d : Byte) (s : State) : Result := performIndexed .iy 3 23 (fun t => t.decMem (t.indexed d)) s

end Sys2Proof.Machine
end

