-- ==== Sys2Proof/Machine/Block.lean ====
section
/-! DEFINITION. The block transfer, search and I/O instructions (43_block.md). `inc` is 1 for the incrementing forms and -1
for the decrementing ones. -/

namespace Sys2Proof.Machine

/-- One element of LDI (`inc = 1`) or LDD (`inc = -1`) (R282, R283). -/
def State.loadElement (t : State) (inc : Word) : State :=
  let v := t.readByte t.hl
  let u := t.writeByte t.de v
  let u := ((u.setHL (t.hl + inc)).setDE (t.de + inc)).setBC (t.bc - 1)
  u.setF (ldiFlags t.main.f (v + t.main.a) (t.bc - 1))

/-- One element of CPI or CPD (R286, R287). -/
def State.compareElement (t : State) (inc : Word) : State :=
  let v := t.readByte t.hl
  let u := (t.setHL (t.hl + inc)).setBC (t.bc - 1)
  u.setF (cpiFlags t.main.f t.main.a v (t.bc - 1))

/-- One element of INI or IND: the port is B:C before B is decremented (R290, R291). -/
def State.inputElement (t : State) (inc : Word) : State :=
  let v := (t.ioRead t.bc).1
  let u := (t.ioRead t.bc).2.writeByte t.hl v
  let u := (u.setB (t.main.b - 1)).setHL (t.hl + inc)
  u.setF (blockIoFlags (t.main.b - 1) v (v.toNat + (t.main.c + inc.lo).toNat))

/-- One element of OUTI or OUTD: the port is B:C after B is decremented (R294, R295). -/
def State.outputElement (t : State) (inc : Word) : State :=
  let v := t.readByte t.hl
  let u := t.setB (t.main.b - 1)
  let u := (u.ioWrite u.bc v).setHL (t.hl + inc)
  u.setF (blockIoFlags (t.main.b - 1) v (v.toNat + (t.hl + inc).lo.toNat))

/-- The end of an element of a repeating form (R280, R281): when it repeats, the flag bits of `mask` are drawn, PC points at
the ED byte again, and the cost is 21; else the cost is 16. -/
def State.endElement (u : State) (again : Bool) (mask : Byte) : Result :=
  if again then .next ((u.drawIntoF mask).rewindBlock.retire 21) else .next (u.retire 16)

/-- The flag bits a repeating transfer or search element draws: F.5 and F.3 (R281). -/
def moveDraws : Byte := flag5 ||| flag3

/-- The flag bits a repeating I/O element draws: F.5, F.3, F.H and F.PV (R281). -/
def ioDraws : Byte := flag5 ||| flag3 ||| flagH ||| flagPV

/-- LDI (R282). -/
def execLdi (s : State) : Result := perform 2 2 16 (fun t => t.loadElement 1) s

/-- LDD (R283). -/
def execLdd (s : State) : Result := perform 2 2 16 (fun t => t.loadElement (-1)) s

/-- LDIR (R284): repeats while BC ≠ 0. -/
def execLdir (s : State) : Result :=
  let u := (s.fetched 2 2).loadElement 1
  u.endElement (u.bc != 0) moveDraws

/-- LDDR (R285). -/
def execLddr (s : State) : Result :=
  let u := (s.fetched 2 2).loadElement (-1)
  u.endElement (u.bc != 0) moveDraws

/-- CPI (R286). -/
def execCpi (s : State) : Result := perform 2 2 16 (fun t => t.compareElement 1) s

/-- CPD (R287). -/
def execCpd (s : State) : Result := perform 2 2 16 (fun t => t.compareElement (-1)) s

/-- CPIR (R288): repeats while BC ≠ 0 and the byte compared is not A. -/
def execCpir (s : State) : Result :=
  let u := (s.fetched 2 2).compareElement 1
  u.endElement (u.bc != 0 && s.main.a - s.readByte s.hl != 0) moveDraws

/-- CPDR (R289). -/
def execCpdr (s : State) : Result :=
  let u := (s.fetched 2 2).compareElement (-1)
  u.endElement (u.bc != 0 && s.main.a - s.readByte s.hl != 0) moveDraws

/-- INI (R290). -/
def execIni (s : State) : Result := perform 2 2 16 (fun t => t.inputElement 1) s

/-- IND (R291). -/
def execInd (s : State) : Result := perform 2 2 16 (fun t => t.inputElement (-1)) s

/-- INIR (R292): repeats while B ≠ 0. -/
def execInir (s : State) : Result :=
  let u := (s.fetched 2 2).inputElement 1
  u.endElement (u.main.b != 0) ioDraws

/-- INDR (R293). -/
def execIndr (s : State) : Result :=
  let u := (s.fetched 2 2).inputElement (-1)
  u.endElement (u.main.b != 0) ioDraws

/-- OUTI (R294). -/
def execOuti (s : State) : Result := perform 2 2 16 (fun t => t.outputElement 1) s

/-- OUTD (R295). -/
def execOutd (s : State) : Result := perform 2 2 16 (fun t => t.outputElement (-1)) s

/-- OTIR (R296): repeats while B ≠ 0. -/
def execOtir (s : State) : Result :=
  let u := (s.fetched 2 2).outputElement 1
  u.endElement (u.main.b != 0) ioDraws

/-- OTDR (R297). -/
def execOtdr (s : State) : Result :=
  let u := (s.fetched 2 2).outputElement (-1)
  u.endElement (u.main.b != 0) ioDraws

end Sys2Proof.Machine
end

