-- ==== Sys2Proof/Machine/Control.lean ====
section
/-! DEFINITION. The jump, call, return and restart instructions (47_control.md). -/

namespace Sys2Proof.Machine

/-- The end of a conditional instruction: with its effect and one cost, or without and the other (40_engine.md rule
R160). -/
def branch (taken : Bool) (costTaken costNot : Nat) (effect : State → State) (t : State) : Result :=
  if taken then .next ((effect t).retire costTaken) else .next (t.retire costNot)

/-- `PC <- v`. -/
def State.jumpTo (t : State) (v : Word) : State := { t with pc := v }

/-- `Push16(PC); PC <- v` (R447). -/
def State.callTo (t : State) (v : Word) : State := { t.push16 t.pc with pc := v }

/-- `PC <- Pop16()` (R449). -/
def State.popPC (t : State) : State := { t.pop16.2 with pc := t.pop16.1 }

/-- JP nn (R441). -/
def execJpNn (nn : Word) (s : State) : Result := perform 3 1 10 (fun t => t.jumpTo nn) s

/-- JP cc,nn (R442): 10 cycles either way. -/
def execJpCcNn (cc : Cond) (nn : Word) (s : State) : Result :=
  branch (s.cond cc) 10 10 (fun t => t.jumpTo nn) (s.fetched 3 1)

/-- JR e (R443). -/
def execJr (e : Byte) (s : State) : Result := perform 2 1 12 (fun t => t.jumpRelative e) s

/-- JR cc,e (R444). -/
def execJrCc (cc : Cond) (e : Byte) (s : State) : Result :=
  branch (s.cond cc) 12 7 (fun t => t.jumpRelative e) (s.fetched 2 1)

/-- JP (HL) (R445): no memory is read. -/
def execJpHl (s : State) : Result := perform 1 1 4 (fun t => t.jumpTo t.hl) s

/-- DJNZ e (R446). -/
def execDjnz (e : Byte) (s : State) : Result :=
  branch (s.main.b - 1 != 0) 13 8 (fun t => t.jumpRelative e) ((s.fetched 2 1).setB (s.main.b - 1))

/-- CALL nn (R447). -/
def execCallNn (nn : Word) (s : State) : Result := perform 3 1 17 (fun t => t.callTo nn) s

/-- CALL cc,nn (R448). -/
def execCallCcNn (cc : Cond) (nn : Word) (s : State) : Result :=
  branch (s.cond cc) 17 10 (fun t => t.callTo nn) (s.fetched 3 1)

/-- RET (R449). -/
def execRet (s : State) : Result := perform 1 1 10 State.popPC s

/-- RET cc (R450). -/
def execRetCc (cc : Cond) (s : State) : Result := branch (s.cond cc) 11 5 State.popPC (s.fetched 1 1)

/-- RETI (R451). -/
def execReti (s : State) : Result := perform 2 2 14 State.returnFromInterrupt s

/-- RETN (R452), whatever the field `y` the encoding ignores: it differs from RETI in nothing. -/
def execRetn (_y : Fin 8) (s : State) : Result := perform 2 2 14 State.returnFromInterrupt s

/-- RST p, p = y * 8 (R453). -/
def execRst (y : Fin 8) (s : State) : Result := perform 1 1 11 (fun t => t.callTo (BitVec.ofNat 16 (y.val * 8))) s

/-- JP (IX) (R445). -/
def execJpIx (s : State) : Result := performIndexed .ix 2 8 (fun t => t.jumpTo t.hlx) s

/-- JP (IY) (R445). -/
def execJpIy (s : State) : Result := performIndexed .iy 2 8 (fun t => t.jumpTo t.hlx) s

end Sys2Proof.Machine
end

