-- ==== Sys2Proof/Machine/InOut.lean ====
section
/-! DEFINITION. The input/output and CPU-control instructions (48_io_cpu_control.md). Ports are A:n and B:C (20_memory.md
rule R66). -/

namespace Sys2Proof.Machine

/-- One more decoding error and nothing else (R493). -/
def State.decodeError (t : State) : State := { t with decodeErrors := t.decodeErrors + 1 }

/-- IN A,(n) (R480): the port's high byte is the old A. -/
def execInAN (n : Byte) (s : State) : Result :=
  perform 2 1 11 (fun t => (t.ioRead (Word.mk t.main.a n)).2.setA (t.ioRead (Word.mk t.main.a n)).1) s

/-- IN r,(C) (R481). -/
def execInRC (r : Reg8) (s : State) : Result :=
  perform 2 2 12 (fun t => ((t.ioRead t.bc).2.setReg r (t.ioRead t.bc).1).setF (inFlags t.main.f (t.ioRead t.bc).1)) s

/-- IN F,(C) (R482): no register receives the byte. -/
def execInFC (s : State) : Result :=
  perform 2 2 12 (fun t => (t.ioRead t.bc).2.setF (inFlags t.main.f (t.ioRead t.bc).1)) s

/-- OUT (n),A (R483). -/
def execOutNA (n : Byte) (s : State) : Result := perform 2 1 11 (fun t => t.ioWrite (Word.mk t.main.a n) t.main.a) s

/-- OUT (C),r (R484). -/
def execOutCR (r : Reg8) (s : State) : Result := perform 2 2 12 (fun t => t.ioWrite t.bc (t.reg r)) s

/-- OUT (C),0 (R485). -/
def execOutC0 (s : State) : Result := perform 2 2 12 (fun t => t.ioWrite t.bc Config.outC0Value) s

/-- NOP (R486). -/
def execNop (s : State) : Result := perform 1 1 4 id s

/-- HALT (R487): PC stays after the HALT byte. -/
def execHalt (s : State) : Result := perform 1 1 4 (fun t => { t with halted := true }) s

/-- DI (R488). -/
def execDi (s : State) : Result := perform 1 1 4 (fun t => { t with iff1 := false, iff2 := false }) s

/-- EI (R489): interrupts are inhibited at the boundary after it (40_engine.md rule R171). -/
def execEi (s : State) : Result := .next ({ s.fetched 1 1 with iff1 := true, iff2 := true }.retire 4 true)

/-- IM 0 (R490), whatever the field `y`. -/
def execIm0 (_y : Fin 8) (s : State) : Result := perform 2 2 8 (fun t => { t with im := .im0 }) s

/-- IM 1 (R491), whatever the field `y`. -/
def execIm1 (_y : Fin 8) (s : State) : Result := perform 2 2 8 (fun t => { t with im := .im1 }) s

/-- IM 2 (R492), whatever the field `y`. -/
def execIm2 (_y : Fin 8) (s : State) : Result := perform 2 2 8 (fun t => { t with im := .im2 }) s

/-- Undefined ED 77 and ED 7F (R493). -/
def execUndefEd77 (_k : Bool) (s : State) : Result := perform 2 2 8 State.decodeError s

/-- Undefined ED opcodes with x = 0 (R493). -/
def execUndefEdX0 (_k : Fin 64) (s : State) : Result := perform 2 2 8 State.decodeError s

/-- Undefined ED opcodes with x = 2, outside the block set (R493). -/
def execUndefEdX2 (_k : Fin 64) (s : State) : Result := perform 2 2 8 State.decodeError s

/-- Undefined ED opcodes with x = 3 (R493). -/
def execUndefEdX3 (_k : Fin 64) (s : State) : Result := perform 2 2 8 State.decodeError s

end Sys2Proof.Machine
end

