-- ==== Sys2Proof/Machine/Load16.lean ====
section
/-! DEFINITION. The 16-bit load, stack and exchange instructions (42_load16_exchange.md). -/

namespace Sys2Proof.Machine

/-- The exchange of HL (under the substitution in force) with the top of the stack: SP + 1 is written before SP
(R257, 20_memory.md rule R71 f). -/
def State.exchangeTop (t : State) : State :=
  let v := t.readWord t.sp
  let u := (t.writeByte (t.sp + 1) t.hlx.hi).writeByte t.sp t.hlx.lo
  u.setHlx v

/-- LD rp,nn (R240). -/
def execLdRpNn (p : Pair) (nn : Word) (s : State) : Result := perform 3 1 10 (fun t => t.setPair p nn) s

/-- LD HL,(nn) (R242). -/
def execLdHlMemNn (nn : Word) (s : State) : Result := perform 3 1 16 (fun t => t.setHL (t.readWord nn)) s

/-- LD (nn),HL (R243). -/
def execLdMemNnHl (nn : Word) (s : State) : Result := perform 3 1 16 (fun t => t.writeWord nn t.hl) s

/-- LD rp,(nn), ED form (R244). -/
def execLdRpMemNn (p : Pair) (nn : Word) (s : State) : Result := perform 4 2 20 (fun t => t.setPair p (t.readWord nn)) s

/-- LD (nn),rp, ED form (R245). -/
def execLdMemNnRp (p : Pair) (nn : Word) (s : State) : Result := perform 4 2 20 (fun t => t.writeWord nn (t.pair p)) s

/-- LD SP,HL (R248). -/
def execLdSpHl (s : State) : Result := perform 1 1 6 (fun t => { t with sp := t.hl }) s

/-- PUSH rp2 (R250). -/
def execPushRp2 (p : StackPair) (s : State) : Result := perform 1 1 11 (fun t => t.push16 (t.stackPair p)) s

/-- POP rp2 (R252). -/
def execPopRp2 (p : StackPair) (s : State) : Result := perform 1 1 10 (fun t => t.pop16.2.setStackPair p t.pop16.1) s

/-- EX DE,HL, never substituted (R254). -/
def execExDeHl (s : State) : Result := perform 1 1 4 (fun t => (t.setDE t.hl).setHL t.de) s

/-- EX AF,AF' (R255). -/
def execExAfAf (s : State) : Result :=
  perform 1 1 4
    (fun t => { t with
      main := { t.main with a := t.shadow.a, f := t.shadow.f }
      shadow := { t.shadow with a := t.main.a, f := t.main.f } }) s

/-- EXX (R256): BC, DE and HL exchanged with the shadow set. -/
def execExx (s : State) : Result :=
  perform 1 1 4
    (fun t => { t with
      main := { t.shadow with a := t.main.a, f := t.main.f }
      shadow := { t.main with a := t.shadow.a, f := t.shadow.f } }) s

/-- EX (SP),HL (R257). -/
def execExMemSpHl (s : State) : Result := perform 1 1 19 State.exchangeTop s

/-- LD IX,nn (R241). -/
def execLdIxNn (nn : Word) (s : State) : Result := performIndexed .ix 4 14 (fun t => t.setHlx nn) s

/-- LD IX,(nn) (R246). -/
def execLdIxMemNn (nn : Word) (s : State) : Result := performIndexed .ix 4 20 (fun t => t.setHlx (t.readWord nn)) s

/-- LD (nn),IX (R247). -/
def execLdMemNnIx (nn : Word) (s : State) : Result := performIndexed .ix 4 20 (fun t => t.writeWord nn t.hlx) s

/-- LD SP,IX (R249). -/
def execLdSpIx (s : State) : Result := performIndexed .ix 2 10 (fun t => { t with sp := t.hlx }) s

/-- PUSH IX (R251). -/
def execPushIx (s : State) : Result := performIndexed .ix 2 15 (fun t => t.push16 t.hlx) s

/-- POP IX (R253). -/
def execPopIx (s : State) : Result := performIndexed .ix 2 14 (fun t => t.pop16.2.setHlx t.pop16.1) s

/-- EX (SP),IX (R258). -/
def execExMemSpIx (s : State) : Result := performIndexed .ix 2 23 State.exchangeTop s

/-- LD IY,nn (R241). -/
def execLdIyNn (nn : Word) (s : State) : Result := performIndexed .iy 4 14 (fun t => t.setHlx nn) s

/-- LD IY,(nn) (R246). -/
def execLdIyMemNn (nn : Word) (s : State) : Result := performIndexed .iy 4 20 (fun t => t.setHlx (t.readWord nn)) s

/-- LD (nn),IY (R247). -/
def execLdMemNnIy (nn : Word) (s : State) : Result := performIndexed .iy 4 20 (fun t => t.writeWord nn t.hlx) s

/-- LD SP,IY (R249). -/
def execLdSpIy (s : State) : Result := performIndexed .iy 2 10 (fun t => { t with sp := t.hlx }) s

/-- PUSH IY (R251). -/
def execPushIy (s : State) : Result := performIndexed .iy 2 15 (fun t => t.push16 t.hlx) s

/-- POP IY (R253). -/
def execPopIy (s : State) : Result := performIndexed .iy 2 14 (fun t => t.pop16.2.setHlx t.pop16.1) s

/-- EX (SP),IY (R258). -/
def execExMemSpIy (s : State) : Result := performIndexed .iy 2 23 State.exchangeTop s

end Sys2Proof.Machine
end

