-- ==== Sys2Proof/Machine/Load8.lean ====
section
/-! DEFINITION. The 8-bit load instructions (41_load8.md). -/

namespace Sys2Proof.Machine

/-- LD r,n (R201). -/
def execLdRN (r : Reg8) (n : Byte) (s : State) : Result := perform 2 1 7 (fun t => t.setReg r n) s

/-- LD (HL),n (R204). -/
def execLdMemHlN (n : Byte) (s : State) : Result := perform 2 1 10 (fun t => t.writeByte t.hl n) s

/-- LD r,(HL) (R202). -/
def execLdRMemHl (r : Reg8) (s : State) : Result := perform 1 1 7 (fun t => t.setReg r (t.readByte t.hl)) s

/-- LD (HL),r (R203). -/
def execLdMemHlR (r : Reg8) (s : State) : Result := perform 1 1 7 (fun t => t.writeByte t.hl (t.reg r)) s

/-- LD r,r' (R200). -/
def execLdRR (dst src : Reg8) (s : State) : Result := perform 1 1 4 (fun t => t.setReg dst (t.reg src)) s

/-- LD A,(BC) (R205). -/
def execLdAMemBc (s : State) : Result := perform 1 1 7 (fun t => t.setA (t.readByte t.bc)) s

/-- LD A,(DE) (R206). -/
def execLdAMemDe (s : State) : Result := perform 1 1 7 (fun t => t.setA (t.readByte t.de)) s

/-- LD A,(nn) (R207). -/
def execLdAMemNn (nn : Word) (s : State) : Result := perform 3 1 13 (fun t => t.setA (t.readByte nn)) s

/-- LD (BC),A (R208). -/
def execLdMemBcA (s : State) : Result := perform 1 1 7 (fun t => t.writeByte t.bc t.main.a) s

/-- LD (DE),A (R209). -/
def execLdMemDeA (s : State) : Result := perform 1 1 7 (fun t => t.writeByte t.de t.main.a) s

/-- LD (nn),A (R210). -/
def execLdMemNnA (nn : Word) (s : State) : Result := perform 3 1 13 (fun t => t.writeByte nn t.main.a) s

/-- LD A,I (R216). -/
def execLdAI (s : State) : Result := perform 2 2 9 (fun t => (t.setA t.i).setF (ldAirFlags t.main.f t.i t.iff2)) s

/-- LD A,R (R217): R is read after both increments of the fetch. -/
def execLdAR (s : State) : Result := perform 2 2 9 (fun t => (t.setA t.r).setF (ldAirFlags t.main.f t.r t.iff2)) s

/-- LD I,A (R218). -/
def execLdIA (s : State) : Result := perform 2 2 9 (fun t => { t with i := t.main.a }) s

/-- LD R,A (R219): all eight bits, after the increments of the fetch. -/
def execLdRA (s : State) : Result := perform 2 2 9 (fun t => { t with r := t.main.a }) s

/-- LD r,(IX+d), codes 4 and 5 being H and L (R211). -/
def execLdRMemIx (r : Reg8) (d : Byte) (s : State) : Result :=
  performIndexed .ix 3 19 (fun t => t.setReg r (t.readByte (t.indexed d))) s

/-- LD (IX+d),r, codes 4 and 5 being H and L (R212). -/
def execLdMemIxR (d : Byte) (r : Reg8) (s : State) : Result :=
  performIndexed .ix 3 19 (fun t => t.writeByte (t.indexed d) (t.reg r)) s

/-- LD (IX+d),n (R213). -/
def execLdMemIxN (d n : Byte) (s : State) : Result := performIndexed .ix 4 19 (fun t => t.writeByte (t.indexed d) n) s

/-- LD IXH,r and LD IXL,r, codes 4 and 5 of r being the halves (R214). -/
def execLdIxHalfR (h : Half) (r : Reg8) (s : State) : Result := performIndexed .ix 2 8 (fun t => t.setHalf h (t.regx r)) s

/-- LD r,IXH and LD r,IXL (R214). -/
def execLdRIxHalf (r : Reg8) (h : Half) (s : State) : Result := performIndexed .ix 2 8 (fun t => t.setReg r (t.half h)) s

/-- LD IXH,n and LD IXL,n (R215). -/
def execLdIxHalfN (h : Half) (n : Byte) (s : State) : Result := performIndexed .ix 3 11 (fun t => t.setHalf h n) s

/-- LD r,(IY+d), codes 4 and 5 being H and L (R211). -/
def execLdRMemIy (r : Reg8) (d : Byte) (s : State) : Result :=
  performIndexed .iy 3 19 (fun t => t.setReg r (t.readByte (t.indexed d))) s

/-- LD (IY+d),r, codes 4 and 5 being H and L (R212). -/
def execLdMemIyR (d : Byte) (r : Reg8) (s : State) : Result :=
  performIndexed .iy 3 19 (fun t => t.writeByte (t.indexed d) (t.reg r)) s

/-- LD (IY+d),n (R213). -/
def execLdMemIyN (d n : Byte) (s : State) : Result := performIndexed .iy 4 19 (fun t => t.writeByte (t.indexed d) n) s

/-- LD IYH,r and LD IYL,r, codes 4 and 5 of r being the halves (R214). -/
def execLdIyHalfR (h : Half) (r : Reg8) (s : State) : Result := performIndexed .iy 2 8 (fun t => t.setHalf h (t.regx r)) s

/-- LD r,IYH and LD r,IYL (R214). -/
def execLdRIyHalf (r : Reg8) (h : Half) (s : State) : Result := performIndexed .iy 2 8 (fun t => t.setReg r (t.half h)) s

/-- LD IYH,n and LD IYL,n (R215). -/
def execLdIyHalfN (h : Half) (n : Byte) (s : State) : Result := performIndexed .iy 3 11 (fun t => t.setHalf h n) s

end Sys2Proof.Machine
end

