-- ==== Sys2Proof/Machine/Rotate.lean ====
section
/-! DEFINITION. The rotate, shift and bit instructions (46_rotate_bit.md): the eight operations on a byte once, the operand
forms of rule R394 once, then one meaning per operation and operand. An operation answers the result and the bit shifted
out. -/

namespace Sys2Proof.Machine

/-- A byte with bit 7 as given and the others 0. -/
def topBit (c : Bool) : Byte := if c then 0x80 else 0x00

/-- RLC (R395); the carry in is not used. -/
def rlc8 (v : Byte) (_ : Bool) : Byte × Bool := ((v <<< 1) ||| Byte.ofBool (v.getLsbD 7), v.getLsbD 7)

/-- RRC (R396). -/
def rrc8 (v : Byte) (_ : Bool) : Byte × Bool := ((v >>> 1) ||| topBit (v.getLsbD 0), v.getLsbD 0)

/-- RL (R397): `c` is F.C. -/
def rl8 (v : Byte) (c : Bool) : Byte × Bool := ((v <<< 1) ||| Byte.ofBool c, v.getLsbD 7)

/-- RR (R398): `c` is F.C. -/
def rr8 (v : Byte) (c : Bool) : Byte × Bool := ((v >>> 1) ||| topBit c, v.getLsbD 0)

/-- SLA (R399). -/
def sla8 (v : Byte) (_ : Bool) : Byte × Bool := (v <<< 1, v.getLsbD 7)

/-- SRA (R400): bit 7 is kept. -/
def sra8 (v : Byte) (_ : Bool) : Byte × Bool := ((v >>> 1) ||| (v &&& 0x80), v.getLsbD 0)

/-- SLL (R401): bit 0 is set. -/
def sll8 (v : Byte) (_ : Bool) : Byte × Bool := ((v <<< 1) ||| 1, v.getLsbD 7)

/-- SRL (R402). -/
def srl8 (v : Byte) (_ : Bool) : Byte × Bool := (v >>> 1, v.getLsbD 0)

/-- RES b (R408). -/
def res8 (b : Fin 8) (v : Byte) : Byte := v &&& ~~~(1#8 <<< b.val)

/-- SET b (R409). -/
def set8 (b : Fin 8) (v : Byte) : Byte := v ||| (1#8 <<< b.val)

/-- An accumulator rotate: S, Z and PV are kept (R390 to R393). -/
def State.rotA (t : State) (op : Byte → Bool → Byte × Bool) : State :=
  let o := op t.main.a t.carry
  (t.setA o.1).setF (rotAFlags t.main.f o.1 o.2)

/-- A rotate or shift of a register (R394 a, R149). -/
def State.rotReg (t : State) (op : Byte → Bool → Byte × Bool) (r : Reg8) : State :=
  let o := op (t.reg r) t.carry
  (t.setReg r o.1).setF (rotFlags o.1 o.2)

/-- A rotate or shift of the byte at `a` (R394 b, R149). -/
def State.rotMem (t : State) (op : Byte → Bool → Byte × Bool) (a : Word) : State :=
  let o := op (t.readByte a) t.carry
  (t.writeByte a o.1).setF (rotFlags o.1 o.2)

/-- A rotate or shift of the byte at `a`, its result also loaded into r (R394 c). -/
def State.rotMemCopy (t : State) (op : Byte → Bool → Byte × Bool) (a : Word) (r : Reg8) : State :=
  (t.rotMem op a).setReg r (op (t.readByte a) t.carry).1

/-- RES or SET of a register (R394 a): no flags. -/
def State.mapReg (t : State) (op : Byte → Byte) (r : Reg8) : State := t.setReg r (op (t.reg r))

/-- RES or SET of the byte at `a` (R394 b): no flags. -/
def State.mapMem (t : State) (op : Byte → Byte) (a : Word) : State := t.writeByte a (op (t.readByte a))

/-- RES or SET of the byte at `a`, its result also loaded into r (R394 c). -/
def State.mapMemCopy (t : State) (op : Byte → Byte) (a : Word) (r : Reg8) : State :=
  (t.mapMem op a).setReg r (op (t.readByte a))

/-- RLCA (R390). -/
def execRlca (s : State) : Result := perform 1 1 4 (fun t => t.rotA rlc8) s

/-- RRCA (R391). -/
def execRrca (s : State) : Result := perform 1 1 4 (fun t => t.rotA rrc8) s

/-- RLA (R392). -/
def execRla (s : State) : Result := perform 1 1 4 (fun t => t.rotA rl8) s

/-- RRA (R393). -/
def execRra (s : State) : Result := perform 1 1 4 (fun t => t.rotA rr8) s

/-- RLC r (R395). -/
def execRlcR (r : Reg8) (s : State) : Result := perform 2 2 8 (fun t => t.rotReg rlc8 r) s

/-- RLC (HL) (R395). -/
def execRlcMemHl (s : State) : Result := perform 2 2 15 (fun t => t.rotMem rlc8 t.hl) s

/-- RRC r (R396). -/
def execRrcR (r : Reg8) (s : State) : Result := perform 2 2 8 (fun t => t.rotReg rrc8 r) s

/-- RRC (HL) (R396). -/
def execRrcMemHl (s : State) : Result := perform 2 2 15 (fun t => t.rotMem rrc8 t.hl) s

/-- RL r (R397). -/
def execRlR (r : Reg8) (s : State) : Result := perform 2 2 8 (fun t => t.rotReg rl8 r) s

/-- RL (HL) (R397). -/
def execRlMemHl (s : State) : Result := perform 2 2 15 (fun t => t.rotMem rl8 t.hl) s

/-- RR r (R398). -/
def execRrR (r : Reg8) (s : State) : Result := perform 2 2 8 (fun t => t.rotReg rr8 r) s

/-- RR (HL) (R398). -/
def execRrMemHl (s : State) : Result := perform 2 2 15 (fun t => t.rotMem rr8 t.hl) s

/-- SLA r (R399). -/
def execSlaR (r : Reg8) (s : State) : Result := perform 2 2 8 (fun t => t.rotReg sla8 r) s

/-- SLA (HL) (R399). -/
def execSlaMemHl (s : State) : Result := perform 2 2 15 (fun t => t.rotMem sla8 t.hl) s

/-- SRA r (R400). -/
def execSraR (r : Reg8) (s : State) : Result := perform 2 2 8 (fun t => t.rotReg sra8 r) s

/-- SRA (HL) (R400). -/
def execSraMemHl (s : State) : Result := perform 2 2 15 (fun t => t.rotMem sra8 t.hl) s

/-- SLL r (R401). -/
def execSllR (r : Reg8) (s : State) : Result := perform 2 2 8 (fun t => t.rotReg sll8 r) s

/-- SLL (HL) (R401). -/
def execSllMemHl (s : State) : Result := perform 2 2 15 (fun t => t.rotMem sll8 t.hl) s

/-- SRL r (R402). -/
def execSrlR (r : Reg8) (s : State) : Result := perform 2 2 8 (fun t => t.rotReg srl8 r) s

/-- SRL (HL) (R402). -/
def execSrlMemHl (s : State) : Result := perform 2 2 15 (fun t => t.rotMem srl8 t.hl) s

/-- BIT b,r (R405): F.5 and F.3 from the register. -/
def execBitR (b : Fin 8) (r : Reg8) (s : State) : Result :=
  perform 2 2 8 (fun t => t.setF (bitFlags t.main.f (t.reg r) b (t.reg r))) s

/-- BIT b,(HL) (R406): F.5 and F.3 are draws. -/
def execBitMemHl (b : Fin 8) (s : State) : Result :=
  perform 2 2 12 (fun t => (t.setF (bitFlags t.main.f (t.readByte t.hl) b 0)).drawIntoF (flag5 ||| flag3)) s

/-- RES b,r (R408). -/
def execResR (b : Fin 8) (r : Reg8) (s : State) : Result := perform 2 2 8 (fun t => t.mapReg (res8 b) r) s

/-- RES b,(HL) (R408). -/
def execResMemHl (b : Fin 8) (s : State) : Result := perform 2 2 15 (fun t => t.mapMem (res8 b) t.hl) s

/-- SET b,r (R409). -/
def execSetR (b : Fin 8) (r : Reg8) (s : State) : Result := perform 2 2 8 (fun t => t.mapReg (set8 b) r) s

/-- SET b,(HL) (R409). -/
def execSetMemHl (b : Fin 8) (s : State) : Result := perform 2 2 15 (fun t => t.mapMem (set8 b) t.hl) s

/-- RLD (R403). -/
def execRld (s : State) : Result :=
  perform 2 2 18
    (fun t =>
      let m := t.readByte t.hl
      let a := (t.main.a &&& 0xF0) ||| (m >>> 4)
      ((t.writeByte t.hl ((m <<< 4) ||| (t.main.a &&& 0x0F))).setA a).setF (inFlags t.main.f a)) s

/-- RRD (R404). -/
def execRrd (s : State) : Result :=
  perform 2 2 18
    (fun t =>
      let m := t.readByte t.hl
      let a := (t.main.a &&& 0xF0) ||| (m &&& 0x0F)
      ((t.writeByte t.hl ((t.main.a <<< 4) ||| (m >>> 4))).setA a).setF (inFlags t.main.f a)) s

/-- RLC (IX+d) (R395). -/
def execRlcMemIx (d : Byte) (s : State) : Result := performIndexed .ix 4 23 (fun t => t.rotMem rlc8 (t.indexed d)) s

/-- RLC (IX+d),r (R395, R394 c). -/
def execRlcMemIxR (d : Byte) (r : Reg8) (s : State) : Result :=
  performIndexed .ix 4 23 (fun t => t.rotMemCopy rlc8 (t.indexed d) r) s

/-- RRC (IX+d) (R396). -/
def execRrcMemIx (d : Byte) (s : State) : Result := performIndexed .ix 4 23 (fun t => t.rotMem rrc8 (t.indexed d)) s

/-- RRC (IX+d),r (R396, R394 c). -/
def execRrcMemIxR (d : Byte) (r : Reg8) (s : State) : Result :=
  performIndexed .ix 4 23 (fun t => t.rotMemCopy rrc8 (t.indexed d) r) s

/-- RL (IX+d) (R397). -/
def execRlMemIx (d : Byte) (s : State) : Result := performIndexed .ix 4 23 (fun t => t.rotMem rl8 (t.indexed d)) s

/-- RL (IX+d),r (R397, R394 c). -/
def execRlMemIxR (d : Byte) (r : Reg8) (s : State) : Result :=
  performIndexed .ix 4 23 (fun t => t.rotMemCopy rl8 (t.indexed d) r) s

/-- RR (IX+d) (R398). -/
def execRrMemIx (d : Byte) (s : State) : Result := performIndexed .ix 4 23 (fun t => t.rotMem rr8 (t.indexed d)) s

/-- RR (IX+d),r (R398, R394 c). -/
def execRrMemIxR (d : Byte) (r : Reg8) (s : State) : Result :=
  performIndexed .ix 4 23 (fun t => t.rotMemCopy rr8 (t.indexed d) r) s

/-- SLA (IX+d) (R399). -/
def execSlaMemIx (d : Byte) (s : State) : Result := performIndexed .ix 4 23 (fun t => t.rotMem sla8 (t.indexed d)) s

/-- SLA (IX+d),r (R399, R394 c). -/
def execSlaMemIxR (d : Byte) (r : Reg8) (s : State) : Result :=
  performIndexed .ix 4 23 (fun t => t.rotMemCopy sla8 (t.indexed d) r) s

/-- SRA (IX+d) (R400). -/
def execSraMemIx (d : Byte) (s : State) : Result := performIndexed .ix 4 23 (fun t => t.rotMem sra8 (t.indexed d)) s

/-- SRA (IX+d),r (R400, R394 c). -/
def execSraMemIxR (d : Byte) (r : Reg8) (s : State) : Result :=
  performIndexed .ix 4 23 (fun t => t.rotMemCopy sra8 (t.indexed d) r) s

/-- SLL (IX+d) (R401). -/
def execSllMemIx (d : Byte) (s : State) : Result := performIndexed .ix 4 23 (fun t => t.rotMem sll8 (t.indexed d)) s

/-- SLL (IX+d),r (R401, R394 c). -/
def execSllMemIxR (d : Byte) (r : Reg8) (s : State) : Result :=
  performIndexed .ix 4 23 (fun t => t.rotMemCopy sll8 (t.indexed d) r) s

/-- SRL (IX+d) (R402). -/
def execSrlMemIx (d : Byte) (s : State) : Result := performIndexed .ix 4 23 (fun t => t.rotMem srl8 (t.indexed d)) s

/-- SRL (IX+d),r (R402, R394 c). -/
def execSrlMemIxR (d : Byte) (r : Reg8) (s : State) : Result :=
  performIndexed .ix 4 23 (fun t => t.rotMemCopy srl8 (t.indexed d) r) s

/-- BIT b,(IX+d) (R407), whatever the field `z`: F.5 and F.3 from the high byte of the address. -/
def execBitMemIx (b : Fin 8) (d : Byte) (_z : Fin 8) (s : State) : Result :=
  performIndexed .ix 4 20 (fun t => t.setF (bitFlags t.main.f (t.readByte (t.indexed d)) b (t.indexed d).hi)) s

/-- RES b,(IX+d) (R408). -/
def execResMemIx (b : Fin 8) (d : Byte) (s : State) : Result :=
  performIndexed .ix 4 23 (fun t => t.mapMem (res8 b) (t.indexed d)) s

/-- RES b,(IX+d),r (R408, R394 c). -/
def execResMemIxR (b : Fin 8) (d : Byte) (r : Reg8) (s : State) : Result :=
  performIndexed .ix 4 23 (fun t => t.mapMemCopy (res8 b) (t.indexed d) r) s

/-- SET b,(IX+d) (R409). -/
def execSetMemIx (b : Fin 8) (d : Byte) (s : State) : Result :=
  performIndexed .ix 4 23 (fun t => t.mapMem (set8 b) (t.indexed d)) s

/-- SET b,(IX+d),r (R409, R394 c). -/
def execSetMemIxR (b : Fin 8) (d : Byte) (r : Reg8) (s : State) : Result :=
  performIndexed .ix 4 23 (fun t => t.mapMemCopy (set8 b) (t.indexed d) r) s

/-- RLC (IY+d) (R395). -/
def execRlcMemIy (d : Byte) (s : State) : Result := performIndexed .iy 4 23 (fun t => t.rotMem rlc8 (t.indexed d)) s

/-- RLC (IY+d),r (R395, R394 c). -/
def execRlcMemIyR (d : Byte) (r : Reg8) (s : State) : Result :=
  performIndexed .iy 4 23 (fun t => t.rotMemCopy rlc8 (t.indexed d) r) s

/-- RRC (IY+d) (R396). -/
def execRrcMemIy (d : Byte) (s : State) : Result := performIndexed .iy 4 23 (fun t => t.rotMem rrc8 (t.indexed d)) s

/-- RRC (IY+d),r (R396, R394 c). -/
def execRrcMemIyR (d : Byte) (r : Reg8) (s : State) : Result :=
  performIndexed .iy 4 23 (fun t => t.rotMemCopy rrc8 (t.indexed d) r) s

/-- RL (IY+d) (R397). -/
def execRlMemIy (d : Byte) (s : State) : Result := performIndexed .iy 4 23 (fun t => t.rotMem rl8 (t.indexed d)) s

/-- RL (IY+d),r (R397, R394 c). -/
def execRlMemIyR (d : Byte) (r : Reg8) (s : State) : Result :=
  performIndexed .iy 4 23 (fun t => t.rotMemCopy rl8 (t.indexed d) r) s

/-- RR (IY+d) (R398). -/
def execRrMemIy (d : Byte) (s : State) : Result := performIndexed .iy 4 23 (fun t => t.rotMem rr8 (t.indexed d)) s

/-- RR (IY+d),r (R398, R394 c). -/
def execRrMemIyR (d : Byte) (r : Reg8) (s : State) : Result :=
  performIndexed .iy 4 23 (fun t => t.rotMemCopy rr8 (t.indexed d) r) s

/-- SLA (IY+d) (R399). -/
def execSlaMemIy (d : Byte) (s : State) : Result := performIndexed .iy 4 23 (fun t => t.rotMem sla8 (t.indexed d)) s

/-- SLA (IY+d),r (R399, R394 c). -/
def execSlaMemIyR (d : Byte) (r : Reg8) (s : State) : Result :=
  performIndexed .iy 4 23 (fun t => t.rotMemCopy sla8 (t.indexed d) r) s

/-- SRA (IY+d) (R400). -/
def execSraMemIy (d : Byte) (s : State) : Result := performIndexed .iy 4 23 (fun t => t.rotMem sra8 (t.indexed d)) s

/-- SRA (IY+d),r (R400, R394 c). -/
def execSraMemIyR (d : Byte) (r : Reg8) (s : State) : Result :=
  performIndexed .iy 4 23 (fun t => t.rotMemCopy sra8 (t.indexed d) r) s

/-- SLL (IY+d) (R401). -/
def execSllMemIy (d : Byte) (s : State) : Result := performIndexed .iy 4 23 (fun t => t.rotMem sll8 (t.indexed d)) s

/-- SLL (IY+d),r (R401, R394 c). -/
def execSllMemIyR (d : Byte) (r : Reg8) (s : State) : Result :=
  performIndexed .iy 4 23 (fun t => t.rotMemCopy sll8 (t.indexed d) r) s

/-- SRL (IY+d) (R402). -/
def execSrlMemIy (d : Byte) (s : State) : Result := performIndexed .iy 4 23 (fun t => t.rotMem srl8 (t.indexed d)) s

/-- SRL (IY+d),r (R402, R394 c). -/
def execSrlMemIyR (d : Byte) (r : Reg8) (s : State) : Result :=
  performIndexed .iy 4 23 (fun t => t.rotMemCopy srl8 (t.indexed d) r) s

/-- BIT b,(IY+d) (R407), whatever the field `z`: F.5 and F.3 from the high byte of the address. -/
def execBitMemIy (b : Fin 8) (d : Byte) (_z : Fin 8) (s : State) : Result :=
  performIndexed .iy 4 20 (fun t => t.setF (bitFlags t.main.f (t.readByte (t.indexed d)) b (t.indexed d).hi)) s

/-- RES b,(IY+d) (R408). -/
def execResMemIy (b : Fin 8) (d : Byte) (s : State) : Result :=
  performIndexed .iy 4 23 (fun t => t.mapMem (res8 b) (t.indexed d)) s

/-- RES b,(IY+d),r (R408, R394 c). -/
def execResMemIyR (b : Fin 8) (d : Byte) (r : Reg8) (s : State) : Result :=
  performIndexed .iy 4 23 (fun t => t.mapMemCopy (res8 b) (t.indexed d) r) s

/-- SET b,(IY+d) (R409). -/
def execSetMemIy (b : Fin 8) (d : Byte) (s : State) : Result :=
  performIndexed .iy 4 23 (fun t => t.mapMem (set8 b) (t.indexed d)) s

/-- SET b,(IY+d),r (R409, R394 c). -/
def execSetMemIyR (b : Fin 8) (d : Byte) (r : Reg8) (s : State) : Result :=
  performIndexed .iy 4 23 (fun t => t.mapMemCopy (set8 b) (t.indexed d) r) s

end Sys2Proof.Machine
end

