-- ==== Sys2Proof/Machine/Prefix.lean ====
section
/-! DEFINITION. The prefixes (40_engine.md rules R165 to R170): a prefix alone (dangling), a prefix before an opcode it leaves
as it is (fall-through), and the prefix rows of the tables, each of which looks the next byte up in the table it names and
runs the row it finds there. -/

namespace Sys2Proof.Machine

/-- A dangling prefix: the byte after it is looked at and not taken; 4 cycles, R incremented once, no substitution left,
interrupts inhibited at this boundary (rules R168, R171). -/
def dangling (s : State) : Result := .next ((s.fetched 1 1).retire 4 true)

/-- DD followed by DD (rule R168). -/
def execDanglingDdDd (s : State) : Result := dangling s

/-- DD followed by FD (rule R168). -/
def execDanglingDdFd (s : State) : Result := dangling s

/-- DD followed by ED (rule R168). -/
def execDanglingDdEd (s : State) : Result := dangling s

/-- FD followed by DD (rule R168). -/
def execDanglingFdDd (s : State) : Result := dangling s

/-- FD followed by FD (rule R168). -/
def execDanglingFdFd (s : State) : Result := dangling s

/-- FD followed by ED (rule R168). -/
def execDanglingFdEd (s : State) : Result := dangling s

/-- The meaning of an unprefixed instruction that a DD or FD prefix leaves as it is (rule R167). No other instruction falls
through (30_encoding.md rule R104, log entry 15). -/
def unprefixedRow (i : Instr) (s : State) : Result :=
  match i with
  | .nop => execNop s
  | .exAfAf => execExAfAf s
  | .djnz e => execDjnz e s
  | .jr e => execJr e s
  | .jrCc cc e => execJrCc cc e s
  | .ldRpNn p nn => execLdRpNn p nn s
  | .ldMemBcA => execLdMemBcA s
  | .ldMemDeA => execLdMemDeA s
  | .ldMemNnA nn => execLdMemNnA nn s
  | .ldAMemBc => execLdAMemBc s
  | .ldAMemDe => execLdAMemDe s
  | .ldAMemNn nn => execLdAMemNn nn s
  | .incRp p => execIncRp p s
  | .decRp p => execDecRp p s
  | .incR r => execIncR r s
  | .decR r => execDecR r s
  | .ldRN r n => execLdRN r n s
  | .rlca => execRlca s
  | .rrca => execRrca s
  | .rla => execRla s
  | .rra => execRra s
  | .daa => execDaa s
  | .cpl => execCpl s
  | .scf => execScf s
  | .ccf => execCcf s
  | .halt => execHalt s
  | .ldRR dst src => execLdRR dst src s
  | .addAR r => execAddAR r s
  | .addAN n => execAddAN n s
  | .adcAR r => execAdcAR r s
  | .adcAN n => execAdcAN n s
  | .subR r => execSubR r s
  | .subN n => execSubN n s
  | .sbcAR r => execSbcAR r s
  | .sbcAN n => execSbcAN n s
  | .andR r => execAndR r s
  | .andN n => execAndN n s
  | .xorR r => execXorR r s
  | .xorN n => execXorN n s
  | .orR r => execOrR r s
  | .orN n => execOrN n s
  | .cpR r => execCpR r s
  | .cpN n => execCpN n s
  | .retCc cc => execRetCc cc s
  | .popRp2 p => execPopRp2 p s
  | .ret => execRet s
  | .exx => execExx s
  | .jpCcNn cc nn => execJpCcNn cc nn s
  | .jpNn nn => execJpNn nn s
  | .outNA n => execOutNA n s
  | .inAN n => execInAN n s
  | .exDeHl => execExDeHl s
  | .di => execDi s
  | .ei => execEi s
  | .callCcNn cc nn => execCallCcNn cc nn s
  | .pushRp2 p => execPushRp2 p s
  | .callNn nn => execCallNn nn s
  | .rst y => execRst y s
  | _ => .refused .notInTable

/-- A DD or FD prefix before the instruction `i` it leaves as it is: one more byte, one more R increment, 4 more cycles, no
boundary between (rule R167). -/
def fallThrough (i : Instr) (s : State) : Result :=
  match unprefixedRow i (s.fetched 1 1) with
  | .next t => .next (t.charge 4)
  | .fault r => .fault r
  | .refused r => .refused r

/-- DD before an instruction that does not use HL (rule R167). -/
def execFallThroughDD (i : Instr) (s : State) : Result := fallThrough i s

/-- FD before an instruction that does not use HL (rule R167): as DD, by prefix symmetry. -/
def execFallThroughFD (i : Instr) (s : State) : Result := fallThrough i s

/-- The meaning of a CB row (30_encoding.md rule R102). -/
def cbRow (i : Instr) (s : State) : Result :=
  match i with
  | .rlcR r => execRlcR r s
  | .rlcMemHl => execRlcMemHl s
  | .rrcR r => execRrcR r s
  | .rrcMemHl => execRrcMemHl s
  | .rlR r => execRlR r s
  | .rlMemHl => execRlMemHl s
  | .rrR r => execRrR r s
  | .rrMemHl => execRrMemHl s
  | .slaR r => execSlaR r s
  | .slaMemHl => execSlaMemHl s
  | .sraR r => execSraR r s
  | .sraMemHl => execSraMemHl s
  | .sllR r => execSllR r s
  | .sllMemHl => execSllMemHl s
  | .srlR r => execSrlR r s
  | .srlMemHl => execSrlMemHl s
  | .bitR b r => execBitR b r s
  | .bitMemHl b => execBitMemHl b s
  | .resR b r => execResR b r s
  | .resMemHl b => execResMemHl b s
  | .setR b r => execSetR b r s
  | .setMemHl b => execSetMemHl b s
  | _ => .refused .notInTable

/-- The meaning of an ED row (30_encoding.md rule R103). -/
def edRow (i : Instr) (s : State) : Result :=
  match i with
  | .inRC r => execInRC r s
  | .inFC => execInFC s
  | .outCR r => execOutCR r s
  | .outC0 => execOutC0 s
  | .sbcHlRp p => execSbcHlRp p s
  | .adcHlRp p => execAdcHlRp p s
  | .ldMemNnRp p nn => execLdMemNnRp p nn s
  | .ldRpMemNn p nn => execLdRpMemNn p nn s
  | .neg y => execNeg y s
  | .reti => execReti s
  | .retn y => execRetn y s
  | .im0 y => execIm0 y s
  | .im1 y => execIm1 y s
  | .im2 y => execIm2 y s
  | .ldIA => execLdIA s
  | .ldRA => execLdRA s
  | .ldAI => execLdAI s
  | .ldAR => execLdAR s
  | .rrd => execRrd s
  | .rld => execRld s
  | .undefEd77 k => execUndefEd77 k s
  | .ldi => execLdi s
  | .cpi => execCpi s
  | .ini => execIni s
  | .outi => execOuti s
  | .ldd => execLdd s
  | .cpd => execCpd s
  | .ind => execInd s
  | .outd => execOutd s
  | .ldir => execLdir s
  | .cpir => execCpir s
  | .inir => execInir s
  | .otir => execOtir s
  | .lddr => execLddr s
  | .cpdr => execCpdr s
  | .indr => execIndr s
  | .otdr => execOtdr s
  | .undefEdX0 k => execUndefEdX0 k s
  | .undefEdX2 k => execUndefEdX2 k s
  | .undefEdX3 k => execUndefEdX3 k s
  | _ => .refused .notInTable

/-- The meaning of a DDCB row (30_encoding.md rule R105). -/
def ddcbRow (i : Instr) (s : State) : Result :=
  match i with
  | .rlcMemIx d => execRlcMemIx d s
  | .rlcMemIxR d r => execRlcMemIxR d r s
  | .rrcMemIx d => execRrcMemIx d s
  | .rrcMemIxR d r => execRrcMemIxR d r s
  | .rlMemIx d => execRlMemIx d s
  | .rlMemIxR d r => execRlMemIxR d r s
  | .rrMemIx d => execRrMemIx d s
  | .rrMemIxR d r => execRrMemIxR d r s
  | .slaMemIx d => execSlaMemIx d s
  | .slaMemIxR d r => execSlaMemIxR d r s
  | .sraMemIx d => execSraMemIx d s
  | .sraMemIxR d r => execSraMemIxR d r s
  | .sllMemIx d => execSllMemIx d s
  | .sllMemIxR d r => execSllMemIxR d r s
  | .srlMemIx d => execSrlMemIx d s
  | .srlMemIxR d r => execSrlMemIxR d r s
  | .bitMemIx b d z => execBitMemIx b d z s
  | .resMemIx b d => execResMemIx b d s
  | .resMemIxR b d r => execResMemIxR b d r s
  | .setMemIx b d => execSetMemIx b d s
  | .setMemIxR b d r => execSetMemIxR b d r s
  | _ => .refused .notInTable

/-- The meaning of an FDCB row (30_encoding.md rule R105). -/
def fdcbRow (i : Instr) (s : State) : Result :=
  match i with
  | .rlcMemIy d => execRlcMemIy d s
  | .rlcMemIyR d r => execRlcMemIyR d r s
  | .rrcMemIy d => execRrcMemIy d s
  | .rrcMemIyR d r => execRrcMemIyR d r s
  | .rlMemIy d => execRlMemIy d s
  | .rlMemIyR d r => execRlMemIyR d r s
  | .rrMemIy d => execRrMemIy d s
  | .rrMemIyR d r => execRrMemIyR d r s
  | .slaMemIy d => execSlaMemIy d s
  | .slaMemIyR d r => execSlaMemIyR d r s
  | .sraMemIy d => execSraMemIy d s
  | .sraMemIyR d r => execSraMemIyR d r s
  | .sllMemIy d => execSllMemIy d s
  | .sllMemIyR d r => execSllMemIyR d r s
  | .srlMemIy d => execSrlMemIy d s
  | .srlMemIyR d r => execSrlMemIyR d r s
  | .bitMemIy b d z => execBitMemIy b d z s
  | .resMemIy b d => execResMemIy b d s
  | .resMemIyR b d r => execResMemIyR b d r s
  | .setMemIy b d => execSetMemIy b d s
  | .setMemIyR b d r => execSetMemIyR b d r s
  | _ => .refused .notInTable

/-- CB: the next byte is looked up in the CB table and its row is run (rule R170). -/
def execPrefixCB (op : Byte) (s : State) : Result := cbRow (cbTable op) s

/-- ED: the next byte is looked up in the ED table and its row is run (rule R170). -/
def execPrefixED (b1 b2 b3 : Byte) (s : State) : Result := edRow (edTable b1 b2 b3) s

/-- DD CB: the byte after the displacement is looked up in the DDCB table and its row is run (rule R169). -/
def execDdCb (d op : Byte) (s : State) : Result := ddcbRow (ddcbTable d op) s

/-- FD CB: the byte after the displacement is looked up in the FDCB table and its row is run (rule R169). -/
def execFdCb (d op : Byte) (s : State) : Result := fdcbRow (fdcbTable d op) s

/-- The meaning of a DD row (30_encoding.md rule R104). -/
def ddRow (i : Instr) (s : State) : Result :=
  match i with
  | .danglingDdDd => execDanglingDdDd s
  | .danglingDdFd => execDanglingDdFd s
  | .danglingDdEd => execDanglingDdEd s
  | .ddCb d op => execDdCb d op s
  | .addIxRp p => execAddIxRp p s
  | .ldIxNn nn => execLdIxNn nn s
  | .ldMemNnIx nn => execLdMemNnIx nn s
  | .ldIxMemNn nn => execLdIxMemNn nn s
  | .incIx => execIncIx s
  | .decIx => execDecIx s
  | .incIxHalf h => execIncIxHalf h s
  | .decIxHalf h => execDecIxHalf h s
  | .ldIxHalfN h n => execLdIxHalfN h n s
  | .incMemIx d => execIncMemIx d s
  | .decMemIx d => execDecMemIx d s
  | .ldMemIxN d n => execLdMemIxN d n s
  | .ldRMemIx r d => execLdRMemIx r d s
  | .ldMemIxR d r => execLdMemIxR d r s
  | .ldIxHalfR h r => execLdIxHalfR h r s
  | .ldRIxHalf r h => execLdRIxHalf r h s
  | .addAIxHalf h => execAddAIxHalf h s
  | .addAMemIx d => execAddAMemIx d s
  | .adcAIxHalf h => execAdcAIxHalf h s
  | .adcAMemIx d => execAdcAMemIx d s
  | .subIxHalf h => execSubIxHalf h s
  | .subMemIx d => execSubMemIx d s
  | .sbcAIxHalf h => execSbcAIxHalf h s
  | .sbcAMemIx d => execSbcAMemIx d s
  | .andIxHalf h => execAndIxHalf h s
  | .andMemIx d => execAndMemIx d s
  | .xorIxHalf h => execXorIxHalf h s
  | .xorMemIx d => execXorMemIx d s
  | .orIxHalf h => execOrIxHalf h s
  | .orMemIx d => execOrMemIx d s
  | .cpIxHalf h => execCpIxHalf h s
  | .cpMemIx d => execCpMemIx d s
  | .popIx => execPopIx s
  | .exMemSpIx => execExMemSpIx s
  | .pushIx => execPushIx s
  | .jpIx => execJpIx s
  | .ldSpIx => execLdSpIx s
  | .fallThroughDD i => execFallThroughDD i s
  | _ => .refused .notInTable

/-- The meaning of an FD row (30_encoding.md rule R104). -/
def fdRow (i : Instr) (s : State) : Result :=
  match i with
  | .danglingFdDd => execDanglingFdDd s
  | .danglingFdFd => execDanglingFdFd s
  | .danglingFdEd => execDanglingFdEd s
  | .fdCb d op => execFdCb d op s
  | .addIyRp p => execAddIyRp p s
  | .ldIyNn nn => execLdIyNn nn s
  | .ldMemNnIy nn => execLdMemNnIy nn s
  | .ldIyMemNn nn => execLdIyMemNn nn s
  | .incIy => execIncIy s
  | .decIy => execDecIy s
  | .incIyHalf h => execIncIyHalf h s
  | .decIyHalf h => execDecIyHalf h s
  | .ldIyHalfN h n => execLdIyHalfN h n s
  | .incMemIy d => execIncMemIy d s
  | .decMemIy d => execDecMemIy d s
  | .ldMemIyN d n => execLdMemIyN d n s
  | .ldRMemIy r d => execLdRMemIy r d s
  | .ldMemIyR d r => execLdMemIyR d r s
  | .ldIyHalfR h r => execLdIyHalfR h r s
  | .ldRIyHalf r h => execLdRIyHalf r h s
  | .addAIyHalf h => execAddAIyHalf h s
  | .addAMemIy d => execAddAMemIy d s
  | .adcAIyHalf h => execAdcAIyHalf h s
  | .adcAMemIy d => execAdcAMemIy d s
  | .subIyHalf h => execSubIyHalf h s
  | .subMemIy d => execSubMemIy d s
  | .sbcAIyHalf h => execSbcAIyHalf h s
  | .sbcAMemIy d => execSbcAMemIy d s
  | .andIyHalf h => execAndIyHalf h s
  | .andMemIy d => execAndMemIy d s
  | .xorIyHalf h => execXorIyHalf h s
  | .xorMemIy d => execXorMemIy d s
  | .orIyHalf h => execOrIyHalf h s
  | .orMemIy d => execOrMemIy d s
  | .cpIyHalf h => execCpIyHalf h s
  | .cpMemIy d => execCpMemIy d s
  | .popIy => execPopIy s
  | .exMemSpIy => execExMemSpIy s
  | .pushIy => execPushIy s
  | .jpIy => execJpIy s
  | .ldSpIy => execLdSpIy s
  | .fallThroughFD i => execFallThroughFD i s
  | _ => .refused .notInTable

/-- DD: the next byte is looked up in the DD table and its row is run (rule R165); `b3` is the byte a DDCB row looks up
(rule R169). -/
def execPrefixDD (b1 b2 b3 : Byte) (s : State) : Result := ddRow (ddTable b1 b2 b3) s

/-- FD: the next byte is looked up in the FD table and its row is run (rule R165); `b3` is the byte an FDCB row looks up
(rule R169). -/
def execPrefixFD (b1 b2 b3 : Byte) (s : State) : Result := fdRow (fdTable b1 b2 b3) s

end Sys2Proof.Machine
end

