-- ==== Sys2Proof/Config/Hooks.lean ====
section
/-! DEFINITION. The free values of the tape-loader hook (40_engine.md rule R162, 92_eei_decisions.md D26; log entry 6). They
have no body: nothing can be proved of what the hook does. -/

namespace Sys2Proof

/-- FREE VALUE: the state the n-th draw's tape hook leaves, of which `State.tapeHook` takes the fields the hook may write. -/
opaque Config.tapeState : Nat → Machine.State → Machine.State

/-- FREE VALUE: the bytes the n-th draw's tape hook stores in memory, in order. -/
opaque Config.tapeStores : Nat → Machine.State → List (Word × Byte)

end Sys2Proof
end

