-- ==== Sys2Proof/Machine/Engine.lean ====
section
/-! DEFINITION. The engine around an instruction: which instruction stands at PC, what the host places there, and what happens
at the boundary after an instruction (40_engine.md rules R155 to R164, R172, R173). -/

namespace Sys2Proof.Machine

/-- The instruction whose bytes begin at PC (rules R157, R159). Reading a byte it does not take is unobservable: a memory
read has no side effect (20_memory.md rule R61; log entry 13). -/
def State.instrAtPC (s : State) : Instr :=
  decodeBytes (s.readByte s.pc) (s.readByte (s.pc + 1)) (s.readByte (s.pc + 2)) (s.readByte (s.pc + 3))

/-- Where the next step fetches: PC, or the byte before it when halted (rule R156). -/
def State.fetchAddress (s : State) : Word := if s.halted then s.pc - 1 else s.pc

/-- The wait states of the timed variant (rule R163): a free number of cycles. -/
def State.waitStates (s : State) : State :=
  match s.variant with
  | .timed => { s.charge (Config.timedWait s.draws) with draws := s.draws + 1 }
  | .nonContended => s
  | .nonContendedNoInterrupt => s

/-- The tape-loader hook (rule R162): while a tape load is in progress the host may write any CPU state field and memory;
the platform, the record of events, the variant and the elapsed count are not its to write (log entry 6). -/
def State.tapeHook (s : State) : State :=
  if s.tapeActive then
    { Config.tapeState s.draws s with
      mem := Memory.storeAll s.mem (Config.tapeStores s.draws s)
      readOnly := s.readOnly
      events := s.events ++ [.tapeLoader]
      variant := s.variant
      elapsed := s.elapsed
      draws := s.draws + 1 }
  else s

/-- The re-arm and the hardware-sync hook (rule R172): one addition per boundary. DESIGN CHOICE: the hook leaves `tapeActive` as
it is (log entry 27, unsafe). -/
def State.rearm (s : State) : State :=
  if s.iCount.toInt ≤ 0 then { s with iCount := s.iCount + s.iPeriod, events := s.events ++ [.hardwareSync] } else s

/-- The boundary is in the interrupt window and nothing masks the interrupt (rule R173; 60_exceptions.md rules R523, R524). -/
def State.interruptDue (s : State) : Bool := decide (s.iIntTime.toInt < s.iCount.toInt) && s.iff1 && !s.intInhibit

/-- Accept(state), its cost charged to ICount and to the elapsed count (rule R173). -/
def State.acceptCharged (s : State) : State := s.accept.1.charge s.accept.2

/-- The interrupt check (rule R173). -/
def State.interruptCheck (s : State) : State := if s.interruptDue then s.acceptCharged else s

/-- What only the variant with interrupts does at a boundary: re-arm, then interrupt check (rules R155, R172, R173). -/
def State.periodBoundary (s : State) : State :=
  match s.variant with
  | .timed => s
  | .nonContended => s.rearm.interruptCheck
  | .nonContendedNoInterrupt => s

/-- The boundary after an instruction, in the order of 60_exceptions.md rule R534: the rest of its cost, the tape hook, the
re-arm, the interrupt check. -/
def State.boundary (s : State) : State := s.waitStates.tapeHook.periodBoundary

/-- The boundary after an instruction that answered a next state. -/
def atBoundary (r : Result) : Result :=
  match r with
  | .next s => .next s.boundary
  | .fault f => .fault f
  | .refused f => .refused f

end Sys2Proof.Machine
end

