-- ==== Sys2Proof/Machine/Step.lean ====
section
/-! DEFINITION. One iteration of the run loop (40_engine.md rules R150, R178), and an instruction placed where it fetches. -/

namespace Sys2Proof.Machine

/-- One step: the halt rewind, the instruction at PC, the boundary after it. -/
def step (s : State) : Host.Outcome State Fault Refusal := atBoundary (exec s.haltRewind.instrAtPC s.haltRewind)

/-- The state with the instruction of 30_encoding.md rule R110's numbering, its bits above `nbits` zero, stored where `step`
fetches next (log entry 18). -/
def State.withFetchWord (s : State) (nbits w : Nat) : State := s.placeBytes s.fetchAddress (tableBytes nbits w)

end Sys2Proof.Machine
end

