-- ==== Sys2Proof/Machine/Run.lean ====
section
/-! DEFINITION. What the host may call between instructions: the three run calls (40_engine.md rules R151 to R155, R178),
deliver-interrupt (60_exceptions.md rule R531) and debugStep (40_engine.md rule R176). Reset is `State.resetWith`. -/

namespace Sys2Proof.Machine

/-- The loop of a run call: while `elapsed < numCycles`, one more step (rule R152). `fuel` bounds the iterations: each costs
at least 4 cycles, so `numCycles` of them are enough (log entry 11). -/
def runLoop : Nat → Int → State → Result
  | 0, _, s => .next s
  | fuel + 1, numCycles, s =>
    if s.elapsed < numCycles then
      match step s with
      | .next t => runLoop fuel numCycles t
      | .fault f => .fault f
      | .refused f => .refused f
    else .next s

/-- A run call of one variant: `elapsed <- 0`, then the loop (rule R151). The PC it returns is the final state's
(rule R153). -/
def runCall (v : Variant) (numCycles : Int) (s : State) : Result :=
  runLoop numCycles.toNat numCycles { s with variant := v, elapsed := 0 }

/-- `run(state, numCycles)`, the timed variant (rules R155, R163). -/
def run (s : State) (numCycles : Int) : Result := runCall .timed numCycles s

/-- `runNonContended(state, numCycles)` (rule R155). -/
def runNonContended (s : State) (numCycles : Int) : Result := runCall .nonContended numCycles s

/-- `runNonContendedNoInterrupt(state, numCycles)` (rules R155, R164). -/
def runNonContendedNoInterrupt (s : State) (numCycles : Int) : Result := runCall .nonContendedNoInterrupt numCycles s

/-- `deliver-interrupt(state)`: Accept, subject to IFF1 only; its cost is subtracted from ICount (60_exceptions.md rule
R531). -/
def deliverInterrupt (s : State) : State :=
  { s.accept.1 with iCount := s.accept.1.iCount - BitVec.ofNat 32 s.accept.2 }

/-- What `debugStep` answers (rule R176). -/
inductive DebugAnswer where
  | continue | quit
deriving DecidableEq, Repr

/-- `debugStep(state)`: changes nothing and answers `quit` (rule R176). -/
def debugStep (s : State) : DebugAnswer × State := (.quit, s)

end Sys2Proof.Machine
end

