-- ==== Sys2Proof/Safety.lean ====
section
/-! DEFINITION. The terms claims about the machine are stated in: what a run may rely on, what an instruction leaves besides
its own effect, the closed forms of the spec's flags and operations, and which instructions write which part of the state. -/

namespace Sys2Proof.Machine

/-! ### Outcomes and the invariant -/

/-- The machine went on: no fault, no refusal (60_exceptions.md rule R520). -/
def Goes (r : Result) : Prop := ∃ t, r = .next t

/-- What every step keeps: the memory's canonical form. -/
abbrev State.Inv (s : State) : Prop := Memory.wf s.mem = true

/-! ### What an instruction leaves besides its own effect -/

/-- R after `n` increments: bits 6..0 modulo 128, bit 7 kept (10_state.md rule R28). -/
def refreshed (r : Byte) (n : Nat) : Byte := BitVec.ofNat 8 (r.toNat / 128 * 128 + (r.toNat % 128 + n) % 128)

/-- The state with PC advanced by `len`, R incremented `rinc` times, `cost` cycles charged, no interrupt inhibit, no
substitution, and nothing else changed (40_engine.md rules R157, R158, R160, R165, R171). -/
def State.after (s : State) (len rinc cost : Nat) : State :=
  { s with
    pc := s.pc + BitVec.ofNat 16 len
    r := refreshed s.r rinc
    iCount := s.iCount - BitVec.ofNat 32 cost
    elapsed := s.elapsed + cost
    intInhibit := false
    idx := .none }

/-- F from its eight flags, S first (10_state.md rule R24). -/
def flagByte (s z f5 h f3 pv n c : Bool) : Byte :=
  BitVec.ofNat 8 (s.toNat * 128 + z.toNat * 64 + f5.toNat * 32 + h.toNat * 16 + f3.toNat * 8 + pv.toNat * 4 + n.toNat * 2 + c.toNat)

/-- The high or low byte of a word: IXYH, IXYL (10_state.md rule R22). -/
def halfOf (h : Half) (w : Word) : Byte :=
  match h with
  | .high => BitVec.ofNat 8 (w.toNat / 256)
  | .low => BitVec.ofNat 8 (w.toNat % 256)

/-- The word with one byte replaced. -/
def withHalf (h : Half) (w : Word) (v : Byte) : Word :=
  match h with
  | .high => BitVec.ofNat 16 (v.toNat * 256 + w.toNat % 256)
  | .low => BitVec.ofNat 16 (w.toNat / 256 * 256 + v.toNat)

/-- Register code `r` when codes 4 and 5 are the halves of `w` (30_encoding.md rule R93). -/
def State.regWith (s : State) (w : Word) : Reg8 → Byte
  | .h => halfOf .high w
  | .l => halfOf .low w
  | .b => s.main.b
  | .c => s.main.c
  | .d => s.main.d
  | .e => s.main.e
  | .a => s.main.a

/-- `rp[p]` with code 2 standing for `w` (30_encoding.md rule R94). -/
def State.pairWith (s : State) (w : Word) : Pair → Word
  | .bc => s.bc
  | .de => s.de
  | .hl => w
  | .sp => s.sp

/-! ### Closed forms (40_engine.md rules R140 to R149, 46_rotate_bit.md, 47_control.md rule R440) -/

/-- The flags of ADD8, in the closed form of rule R140. -/
def addFlags (a b : Byte) (cin : Bool) : Byte :=
  let t := a.toNat + b.toNat + cin.toNat
  let res : Byte := BitVec.ofNat 8 t
  flagByte (res.getLsbD 7) (res == 0) (res.getLsbD 5) (decide (a.toNat % 16 + b.toNat % 16 + cin.toNat > 15)) (res.getLsbD 3)
    (a.getLsbD 7 == b.getLsbD 7 && res.getLsbD 7 != a.getLsbD 7) false (decide (t > 255))

/-- The flags of SUB8, in the closed form of rule R141, with F.5 and F.3 taken from `x` (the result, or for CP8 the operand:
rule R142). -/
def subFlags (a b : Byte) (cin : Bool) (x : Byte) : Byte :=
  let t : Int := (a.toNat : Int) - b.toNat - cin.toNat
  let res : Byte := a - b - Byte.ofBool cin
  flagByte (res.getLsbD 7) (res == 0) (x.getLsbD 5) (decide (a.toNat % 16 < b.toNat % 16 + cin.toNat)) (x.getLsbD 3)
    (a.getLsbD 7 != b.getLsbD 7 && res.getLsbD 7 != a.getLsbD 7) true (decide (t < 0))

/-- The number of 1 bits of `n`, counted over its lowest `k` bits. -/
def onesBelow : Nat → Nat → Nat
  | 0, _ => 0
  | k + 1, n => n % 2 + onesBelow k (n / 2)

/-- The flags S, Z, 5, 3 of a result, the parity of `p`, and H, N, C as given: LOGIC, ROTF and the flags of IN, RLD, RRD. -/
def parityFlags (res : Byte) (h n c : Bool) : Byte :=
  flagByte (res.getLsbD 7) (res == 0) (res.getLsbD 5) h (res.getLsbD 3) (onesBelow 8 res.toNat % 2 == 0) n c

/-- The flags of ADC16, in the closed form of rule R147. -/
def adcFlags (a b : Word) (cin : Bool) : Byte :=
  let t := a.toNat + b.toNat + cin.toNat
  let res : Word := BitVec.ofNat 16 t
  flagByte (res.getLsbD 15) (res == 0) (res.getLsbD 13) (decide (a.toNat % 4096 + b.toNat % 4096 + cin.toNat > 4095))
    (res.getLsbD 11) (a.getLsbD 15 == b.getLsbD 15 && res.getLsbD 15 != a.getLsbD 15) false (decide (t > 65535))

/-- The flags of SBC16, in the closed form of rule R148. -/
def sbcFlags (a b : Word) (cin : Bool) : Byte :=
  let t : Int := (a.toNat : Int) - b.toNat - cin.toNat
  let res : Word := BitVec.ofInt 16 t
  flagByte (res.getLsbD 15) (res == 0) (res.getLsbD 13) (decide (a.toNat % 4096 < b.toNat % 4096 + cin.toNat))
    (res.getLsbD 11) (a.getLsbD 15 != b.getLsbD 15 && res.getLsbD 15 != a.getLsbD 15) true (decide (t < 0))

/-- The flags of ADD16, in the closed form of rule R146: S, Z and PV from the old F. -/
def add16Flags (f : Byte) (a b : Word) : Byte :=
  let t := a.toNat + b.toNat
  let res : Word := BitVec.ofNat 16 t
  flagByte (f.getLsbD 7) (f.getLsbD 6) (res.getLsbD 13) (decide (a.toNat % 4096 + b.toNat % 4096 > 4095)) (res.getLsbD 11)
    (f.getLsbD 2) false (decide (t > 65535))

/-- The flags of INC8, from the old F and the result (rule R144). -/
def incFlags (f res : Byte) : Byte :=
  flagByte (res.getLsbD 7) (res == 0) (res.getLsbD 5) (res.toNat % 16 == 0) (res.getLsbD 3) (res == 0x80) false (f.getLsbD 0)

/-- The flags of DEC8, from the old F, the operand and the result (rule R145). -/
def decFlags (f v res : Byte) : Byte :=
  flagByte (res.getLsbD 7) (res == 0) (res.getLsbD 5) (v.toNat % 16 == 0) (res.getLsbD 3) (res == 0x7F) true (f.getLsbD 0)

/-- What `alu[y]` leaves of A and F (44_alu8.md rules R321 to R328). -/
def aluResult (y : Fin 8) (a f v : Byte) : Byte × Byte :=
  let c := f.getLsbD 0
  match y.val with
  | 0 => (a + v, addFlags a v false)
  | 1 => (a + v + Byte.ofBool c, addFlags a v c)
  | 2 => (a - v, subFlags a v false (a - v))
  | 3 => (a - v - Byte.ofBool c, subFlags a v c (a - v - Byte.ofBool c))
  | 4 => (a &&& v, parityFlags (a &&& v) true false false)
  | 5 => (a ^^^ v, parityFlags (a ^^^ v) false false false)
  | 6 => (a ||| v, parityFlags (a ||| v) false false false)
  | _ => (a, subFlags a v false v)

/-- What `rot[y]` leaves of the byte `v` with F.C = `c`, and the bit shifted out (46_rotate_bit.md rules R395 to R402). -/
def rotResult (y : Fin 8) (v : Byte) (c : Bool) : Byte × Bool :=
  let n := v.toNat
  let up := n / 128 == 1
  let down := n % 2 == 1
  match y.val with
  | 0 => (BitVec.ofNat 8 (2 * n + n / 128), up)
  | 1 => (BitVec.ofNat 8 (n / 2 + n % 2 * 128), down)
  | 2 => (BitVec.ofNat 8 (2 * n + c.toNat), up)
  | 3 => (BitVec.ofNat 8 (n / 2 + c.toNat * 128), down)
  | 4 => (BitVec.ofNat 8 (2 * n), up)
  | 5 => (BitVec.ofNat 8 (n / 2 + n / 128 * 128), down)
  | 6 => (BitVec.ofNat 8 (2 * n + 1), up)
  | _ => (BitVec.ofNat 8 (n / 2), down)

/-- `cond(cc)` read from F: the flag the code names, and whether it must be set (rule R440). -/
def condOf (cc : Cond) (f : Byte) : Bool :=
  match cc with
  | .nz => f.toNat / 64 % 2 == 0
  | .z => f.toNat / 64 % 2 == 1
  | .nc => f.toNat % 2 == 0
  | .c => f.toNat % 2 == 1
  | .po => f.toNat / 4 % 2 == 0
  | .pe => f.toNat / 4 % 2 == 1
  | .p => f.toNat / 128 == 0
  | .m => f.toNat / 128 == 1

/-- The address of a displaced operand: the base plus the displacement as a signed number, modulo 2^16 (30_encoding.md rule
R99). -/
def displaced (base : Word) (d : Byte) : Word := BitVec.ofInt 16 (base.toNat + d.toInt)

/-- The state with A and F as given. -/
def State.withAF (s : State) (af : Byte × Byte) : State := { s with main := { s.main with a := af.1, f := af.2 } }

/-- The state with F as given. -/
def State.withF (s : State) (f : Byte) : State := { s with main := { s.main with f := f } }

/-! ### Which instructions write which part of the state -/

/-- The memory addresses an instruction stores to in a state, each computed as the instruction's rule computes it. -/
def storedTo : Instr → State → List Word
  | .ldMemHlN _, s => [s.hl]
  | .ldMemHlR _, s => [s.hl]
  | .ldMemBcA, s => [s.bc]
  | .ldMemDeA, s => [s.de]
  | .ldMemNnA nn, _ => [nn]
  | .ldMemNnHl nn, _ => [nn, nn + 1]
  | .ldMemNnRp _ nn, _ => [nn, nn + 1]
  | .ldMemNnIx nn, _ => [nn, nn + 1]
  | .ldMemNnIy nn, _ => [nn, nn + 1]
  | .ldMemIxN d _, s => [s.ix + sext16 d]
  | .ldMemIxR d _, s => [s.ix + sext16 d]
  | .ldMemIyN d _, s => [s.iy + sext16 d]
  | .ldMemIyR d _, s => [s.iy + sext16 d]
  | .incMemHl, s => [s.hl]
  | .decMemHl, s => [s.hl]
  | .incMemIx d, s => [s.ix + sext16 d]
  | .decMemIx d, s => [s.ix + sext16 d]
  | .incMemIy d, s => [s.iy + sext16 d]
  | .decMemIy d, s => [s.iy + sext16 d]
  | .rlcMemHl, s => [s.hl]
  | .rrcMemHl, s => [s.hl]
  | .rlMemHl, s => [s.hl]
  | .rrMemHl, s => [s.hl]
  | .slaMemHl, s => [s.hl]
  | .sraMemHl, s => [s.hl]
  | .sllMemHl, s => [s.hl]
  | .srlMemHl, s => [s.hl]
  | .resMemHl _, s => [s.hl]
  | .setMemHl _, s => [s.hl]
  | .rlcMemIx d, s => [s.ix + sext16 d]
  | .rrcMemIx d, s => [s.ix + sext16 d]
  | .rlMemIx d, s => [s.ix + sext16 d]
  | .rrMemIx d, s => [s.ix + sext16 d]
  | .slaMemIx d, s => [s.ix + sext16 d]
  | .sraMemIx d, s => [s.ix + sext16 d]
  | .sllMemIx d, s => [s.ix + sext16 d]
  | .srlMemIx d, s => [s.ix + sext16 d]
  | .rlcMemIxR d _, s => [s.ix + sext16 d]
  | .rrcMemIxR d _, s => [s.ix + sext16 d]
  | .rlMemIxR d _, s => [s.ix + sext16 d]
  | .rrMemIxR d _, s => [s.ix + sext16 d]
  | .slaMemIxR d _, s => [s.ix + sext16 d]
  | .sraMemIxR d _, s => [s.ix + sext16 d]
  | .sllMemIxR d _, s => [s.ix + sext16 d]
  | .srlMemIxR d _, s => [s.ix + sext16 d]
  | .resMemIx _ d, s => [s.ix + sext16 d]
  | .setMemIx _ d, s => [s.ix + sext16 d]
  | .resMemIxR _ d _, s => [s.ix + sext16 d]
  | .setMemIxR _ d _, s => [s.ix + sext16 d]
  | .rlcMemIy d, s => [s.iy + sext16 d]
  | .rrcMemIy d, s => [s.iy + sext16 d]
  | .rlMemIy d, s => [s.iy + sext16 d]
  | .rrMemIy d, s => [s.iy + sext16 d]
  | .slaMemIy d, s => [s.iy + sext16 d]
  | .sraMemIy d, s => [s.iy + sext16 d]
  | .sllMemIy d, s => [s.iy + sext16 d]
  | .srlMemIy d, s => [s.iy + sext16 d]
  | .rlcMemIyR d _, s => [s.iy + sext16 d]
  | .rrcMemIyR d _, s => [s.iy + sext16 d]
  | .rlMemIyR d _, s => [s.iy + sext16 d]
  | .rrMemIyR d _, s => [s.iy + sext16 d]
  | .slaMemIyR d _, s => [s.iy + sext16 d]
  | .sraMemIyR d _, s => [s.iy + sext16 d]
  | .sllMemIyR d _, s => [s.iy + sext16 d]
  | .srlMemIyR d _, s => [s.iy + sext16 d]
  | .resMemIy _ d, s => [s.iy + sext16 d]
  | .setMemIy _ d, s => [s.iy + sext16 d]
  | .resMemIyR _ d _, s => [s.iy + sext16 d]
  | .setMemIyR _ d _, s => [s.iy + sext16 d]
  | .rld, s => [s.hl]
  | .rrd, s => [s.hl]
  | .pushRp2 _, s => [s.sp - 1, s.sp - 2]
  | .pushIx, s => [s.sp - 1, s.sp - 2]
  | .pushIy, s => [s.sp - 1, s.sp - 2]
  | .callNn _, s => [s.sp - 1, s.sp - 2]
  | .callCcNn cc _, s => if s.cond cc then [s.sp - 1, s.sp - 2] else []
  | .rst _, s => [s.sp - 1, s.sp - 2]
  | .exMemSpHl, s => [s.sp, s.sp + 1]
  | .exMemSpIx, s => [s.sp, s.sp + 1]
  | .exMemSpIy, s => [s.sp, s.sp + 1]
  | .ldi, s => [s.de]
  | .ldd, s => [s.de]
  | .ldir, s => [s.de]
  | .lddr, s => [s.de]
  | .ini, s => [s.hl]
  | .ind, s => [s.hl]
  | .inir, s => [s.hl]
  | .indr, s => [s.hl]
  | .fallThroughDD i, s => storedTo i s
  | .fallThroughFD i, s => storedTo i s
  | _, _ => []

/-- The instructions that read or write a port (20_memory.md rule R65). -/
def usesPort : Instr → Bool
  | .inAN _ => true
  | .inRC _ => true
  | .inFC => true
  | .outNA _ => true
  | .outCR _ => true
  | .outC0 => true
  | .ini => true
  | .ind => true
  | .inir => true
  | .indr => true
  | .outi => true
  | .outd => true
  | .otir => true
  | .otdr => true
  | .fallThroughDD i => usesPort i
  | .fallThroughFD i => usesPort i
  | _ => false

/-- The instructions with no mark but `-` in the flag line of their rule: they leave F as it is. POP AF and EX AF,AF' load F
and are not among them. -/
def keepsFlags : Instr → Bool
  | .djnz _ => true
  | .jr _ => true
  | .jrCc _ _ => true
  | .ldRpNn _ _ => true
  | .ldMemNnHl _ => true
  | .ldMemNnA _ => true
  | .ldHlMemNn _ => true
  | .ldAMemNn _ => true
  | .incRp _ => true
  | .decRp _ => true
  | .ldRN _ _ => true
  | .ldMemHlN _ => true
  | .ldRMemHl _ => true
  | .ldMemHlR _ => true
  | .ldRR _ _ => true
  | .retCc _ => true
  | .popRp2 p => p != .af
  | .jpCcNn _ _ => true
  | .jpNn _ => true
  | .outNA _ => true
  | .inAN _ => true
  | .callCcNn _ _ => true
  | .pushRp2 _ => true
  | .callNn _ => true
  | .rst _ => true
  | .resR _ _ => true
  | .resMemHl _ => true
  | .setR _ _ => true
  | .setMemHl _ => true
  | .outCR _ => true
  | .ldMemNnRp _ _ => true
  | .ldRpMemNn _ _ => true
  | .retn _ => true
  | .im0 _ => true
  | .im1 _ => true
  | .im2 _ => true
  | .undefEd77 _ => true
  | .undefEdX0 _ => true
  | .undefEdX2 _ => true
  | .undefEdX3 _ => true
  | .ldIxNn _ => true
  | .ldMemNnIx _ => true
  | .ldIxMemNn _ => true
  | .ldIxHalfN _ _ => true
  | .ldMemIxN _ _ => true
  | .ldRMemIx _ _ => true
  | .ldMemIxR _ _ => true
  | .ldIxHalfR _ _ => true
  | .ldRIxHalf _ _ => true
  | .ldIyNn _ => true
  | .ldMemNnIy _ => true
  | .ldIyMemNn _ => true
  | .ldIyHalfN _ _ => true
  | .ldMemIyN _ _ => true
  | .ldRMemIy _ _ => true
  | .ldMemIyR _ _ => true
  | .ldIyHalfR _ _ => true
  | .ldRIyHalf _ _ => true
  | .resMemIx _ _ => true
  | .resMemIxR _ _ _ => true
  | .setMemIx _ _ => true
  | .setMemIxR _ _ _ => true
  | .resMemIy _ _ => true
  | .resMemIyR _ _ _ => true
  | .setMemIy _ _ => true
  | .setMemIyR _ _ _ => true
  | .nop => true
  | .halt => true
  | .ldMemBcA => true
  | .ldMemDeA => true
  | .ldAMemBc => true
  | .ldAMemDe => true
  | .ret => true
  | .exx => true
  | .jpHl => true
  | .ldSpHl => true
  | .exMemSpHl => true
  | .exDeHl => true
  | .di => true
  | .ei => true
  | .outC0 => true
  | .reti => true
  | .ldIA => true
  | .ldRA => true
  | .danglingDdDd => true
  | .danglingDdFd => true
  | .danglingDdEd => true
  | .incIx => true
  | .decIx => true
  | .popIx => true
  | .exMemSpIx => true
  | .pushIx => true
  | .jpIx => true
  | .ldSpIx => true
  | .danglingFdDd => true
  | .danglingFdFd => true
  | .danglingFdEd => true
  | .incIy => true
  | .decIy => true
  | .popIy => true
  | .exMemSpIy => true
  | .pushIy => true
  | .jpIy => true
  | .ldSpIy => true
  | .fallThroughDD i => keepsFlags i
  | .fallThroughFD i => keepsFlags i
  | _ => false

/-- The instruction itself, or the one a DD or FD prefix leaves as it is (40_engine.md rule R167). -/
def plainOf : Instr → Instr
  | .fallThroughDD i => i
  | .fallThroughFD i => i
  | i => i

/-- A prefix with no effect of its own (40_engine.md rule R168). -/
def dangles : Instr → Bool
  | .danglingDdDd => true
  | .danglingDdFd => true
  | .danglingDdEd => true
  | .danglingFdDd => true
  | .danglingFdFd => true
  | .danglingFdEd => true
  | _ => false

end Sys2Proof.Machine
end

