-- ==== Sys2Proof/Certificates/Slice0/Obligations.lean ====
section
/-! DEFINITION. The statements for the provers. Every one is about every state, whether or not a run reaches it, unless it says
which. `s.after len rinc cost` is the state an instruction leaves apart from its own effect: an equation
`exec i s = .next (…)` built on it says at once that the instruction completes, what it writes, and that everything else is as
before. -/

open Sys2Proof Sys2Proof.Machine

/-! ### Encoding -/

/-- 30_encoding.md R90 to R106: the bytes of a well-formed instruction, whatever follows them, decode to it, and the bytes
after the ones it takes are left. No operand of any constructor is dropped. -/
def Obligations.DecodeOfEncode : Prop :=
  ∀ (i : Instr) (rest : List Byte), i.wellFormed = true →
    decode (encode i ++ rest) = .ok i ((encode i ++ rest).drop i.length)

/-- 30_encoding.md R106, R107: any four bytes begin a well-formed instruction of one to four bytes, whose encoding is those
bytes; so every byte sequence executes and no two instructions share bytes. -/
def Obligations.DecoderSound : Prop :=
  ∀ b0 b1 b2 b3 : Byte,
    (decodeBytes b0 b1 b2 b3).wellFormed = true ∧
    1 ≤ (decodeBytes b0 b1 b2 b3).length ∧
    (decodeBytes b0 b1 b2 b3).length ≤ (encode (decodeBytes b0 b1 b2 b3)).length ∧
    (encode (decodeBytes b0 b1 b2 b3)).length ≤ 4 ∧
    encode (decodeBytes b0 b1 b2 b3) = [b0, b1, b2, b3].take (encode (decodeBytes b0 b1 b2 b3)).length

/-- Words written out from the encodings of 41_load8.md to 48_io_cpu_control.md, one or more per family, decode to the
instruction they stand for. -/
def Obligations.DecodedWords : Prop :=
  decode [0x41] = .ok (.ldRR .b .c) [] ∧
  decode [0x21, 0x34, 0x12] = .ok (.ldRpNn .hl 0x1234) [] ∧
  decode [0xED, 0xB0] = .ok .ldir [] ∧
  decode [0xFD, 0x95] = .ok (.subIyHalf .low) [] ∧
  decode [0xED, 0x72] = .ok (.sbcHlRp .sp) [] ∧
  decode [0xDD, 0xCB, 0xFE, 0x46] = .ok (.bitMemIx 0 0xFE 6) [] ∧
  decode [0x20, 0xFC] = .ok (.jrCc .nz 0xFC) [] ∧
  decode [0xED, 0x69] = .ok (.outCR .l) [] ∧
  decode [0xDD, 0x76] = .ok (.fallThroughDD .halt) [] ∧
  decode [0xDD, 0xED] = .ok .danglingDdEd [0xED] ∧
  decode [0xDD] = .rejected .truncated

/-! ### One step -/

/-- 40_engine.md R150, R156, R159: with `u` the state after the halt rewind, when the bytes from `u`'s PC on are those of a
well-formed instruction `i`, the step is `exec i u` followed, where it answers a next state, by the boundary. -/
def Obligations.StepRunsDecoded : Prop :=
  ∀ (s : State) (i : Instr), i.wellFormed = true →
    (∀ (k : Nat) (v : Byte), (encode i)[k]? = some v → s.haltRewind.readByte (s.haltRewind.pc + BitVec.ofNat 16 k) = v) →
    step s = atBoundary (exec i s.haltRewind) ∧
    (∀ t, exec i s.haltRewind = .next t → step s = .next t.boundary) ∧
    s.haltRewind = (if s.halted then { s with pc := s.pc - 1 } else s)

/-- 60_exceptions.md R520, 30_encoding.md R107: nothing stops the machine. Every well-formed instruction completes in every
state, and every step from every state goes on. -/
def Obligations.EveryStepGoes : Prop :=
  (∀ (i : Instr) (s : State), i.wellFormed = true → Goes (exec i s)) ∧ (∀ s : State, Goes (step s))

/-- 20_memory.md R61, R62: every step from every state whose memory is in canonical form leaves it in canonical form. -/
def Obligations.StepKeepsInv : Prop := ∀ s t : State, s.Inv → step s = .next t → t.Inv

/-- 70_reset_and_hazards.md R570, 20_memory.md R61: the machine right after reset has its memory in canonical form, nothing
listed (log entry 1), and no substitution in force. -/
def Obligations.ResetInv : Prop := State.reset.Inv ∧ State.reset.mem = [] ∧ State.reset.idx = .none

/-- 40_engine.md R150, 10_state.md R35: at every boundary no substitution is in force, unless the tape hook, which may write
any field, ran at it (log entry 6). That no other hook starts a tape load inside the step is the model's choice (log entry
27). -/
def Obligations.NoSubstitutionAtBoundary : Prop :=
  ∀ s t : State, s.tapeActive = false → step s = .next t → t.idx = .none

/-- 70_reset_and_hazards.md R570: every field the reset operation sets, for every value of its arguments and every state, and
that it leaves every other field alone. That the events, the prepared port bytes, the variant, the elapsed count and the count
of draws, fields of the model's form, are among those is the model's choice (log entries 10, 11, 12, 22); so are the list of
read-only ranges (log entry 2) and DECODE_ERR_INIT as an argument (log entry 9). -/
def Obligations.ResetFields : Prop :=
  ∀ (p : Config.ResetParams) (s : State),
    let t := s.resetWith p
    (∀ r : Reg8, t.reg r = 0) ∧ t.main.f = 0 ∧
    t.shadow = { a := 0, f := 0, b := 0, c := 0, d := 0, e := 0, h := 0, l := 0 } ∧
    t.ix = 0 ∧ t.iy = 0 ∧ t.sp = 0xF000 ∧ t.pc = 0 ∧ t.r = 0 ∧ t.i = 0 ∧ t.iff1 = false ∧ t.iff2 = false ∧ t.im = .im0 ∧
    t.halted = false ∧ t.iCount = p.cyclesPerPeriod ∧ t.iPeriod = p.cyclesPerPeriod ∧
    t.iIntTime = p.cyclesBeforeInterruptWindow ∧ t.iRequest = none ∧ t.idx = .none ∧ t.intInhibit = false ∧
    t.debugTrapAddr = 0 ∧ t.breakEnable = false ∧ t.decodeErrors = p.decodeErrInit ∧
    t.mem = s.mem ∧ t.readOnly = s.readOnly ∧ t.tapeActive = s.tapeActive ∧ t.events = s.events ∧ t.portInput = s.portInput ∧
    t.variant = s.variant ∧ t.elapsed = s.elapsed ∧ t.draws = s.draws

/-- 40_engine.md R156, R175, 48_io_cpu_control.md R487: a halted core whose byte at PC - 1 is the HALT byte spends a step on
executing it again: 4 cycles, R incremented once, PC as it was, still halted, and nothing else. The variant is a field of the
model's (log entry 10). -/
def Obligations.HaltedStep : Prop :=
  ∀ s : State, s.halted = true → s.readByte (s.pc - 1) = 0x76 → s.variant = .nonContendedNoInterrupt →
    s.tapeActive = false → step s = .next (s.after 0 1 4)

/-- 40_engine.md R155, R163, R164: the boundary of the two variants that neither re-arm nor check for interrupts, outside a
tape load: nothing without wait states, and the wait states alone in the timed variant. That the wait states are a free value
that takes one draw is the model's (log entry 5); the variant is a field of the model's (log entry 10). -/
def Obligations.BoundaryWithoutInterrupts : Prop :=
  ∀ s : State, s.tapeActive = false →
    (s.variant = .nonContendedNoInterrupt → s.boundary = s) ∧
    (s.variant = .timed → s.boundary =
      { s with
        iCount := s.iCount - BitVec.ofNat 32 (Config.timedWait s.draws)
        elapsed := s.elapsed + Config.timedWait s.draws
        draws := s.draws + 1 })

/-- 40_engine.md R172: at a boundary of the variant with interrupts, outside a tape load and with interrupts disabled or
inhibited, ICount is raised by IPeriod once, and the hardware-sync hook is called, exactly when ICount ≤ 0, and nothing else
happens. The call is an event in the model's record (log entry 7) and changes no field of the state, the tape flag among them
(log entry 27); the variant is a field of the model's (log entry 10). InterruptCheck is about every boundary of this
variant. -/
def Obligations.ReArm : Prop :=
  ∀ s : State, s.tapeActive = false → s.variant = .nonContended → s.iff1 = false ∨ s.intInhibit = true →
    (s.iCount.toInt ≤ 0 →
      s.boundary = { s with iCount := s.iCount + s.iPeriod, events := s.events ++ [.hardwareSync] }) ∧
    (0 < s.iCount.toInt → s.boundary = s)

/-- 40_engine.md R172, R173, 60_exceptions.md R523, R524: every boundary of the variant with interrupts outside a tape load.
`u` is the state after the re-arm: ICount raised by IPeriod and the hardware-sync hook called where ICount ≤ 0, else the state
as it is. An interrupt is accepted at this same boundary exactly when the ICount of `u` is above IIntTime, IFF1 = 1 and
intInhibit = 0; its cost is subtracted from ICount and added to the elapsed count. The variant and the elapsed count are
fields of the model's (log entries 10, 11); the hook's call is an event that changes no field (log entries 7, 27). -/
def Obligations.InterruptCheck : Prop :=
  ∀ s : State, s.tapeActive = false → s.variant = .nonContended →
    let u :=
      if s.iCount.toInt ≤ 0 then { s with iCount := s.iCount + s.iPeriod, events := s.events ++ [.hardwareSync] } else s
    (u.iIntTime.toInt < u.iCount.toInt → u.iff1 = true → u.intInhibit = false →
      s.boundary =
        { u.accept.1 with
          iCount := u.iCount - BitVec.ofNat 32 u.accept.2
          elapsed := u.elapsed + u.accept.2 }) ∧
    (u.iCount.toInt ≤ u.iIntTime.toInt ∨ u.iff1 = false ∨ u.intInhibit = true → s.boundary = u)

/-- 60_exceptions.md R525 to R531: with IFF1 = 0 acceptance does nothing and costs 0; with IFF1 = 1 it clears halted, pushes
PC, clears IFF1 and IFF2, and jumps to 0x0038 in modes 0 and 1 (13 cycles), or in mode 2 to the word read, after the push, at
I:0xFF (19 cycles); nothing else changes. deliver-interrupt is acceptance, its cost subtracted from ICount. -/
def Obligations.Acceptance : Prop :=
  ∀ s : State,
    (s.iff1 = false → s.accept = (s, 0) ∧ deliverInterrupt s = s) ∧
    (s.iff1 = true →
      let m := (s.writeByte (s.sp - 1) s.pc.hi).writeByte (s.sp - 2) s.pc.lo
      let v : Word := BitVec.ofNat 16 (s.i.toNat * 256 + 255)
      s.accept =
        ({ m with
            halted := false, sp := s.sp - 2, iff1 := false, iff2 := false
            pc := if s.im = .im2 then Word.mk (m.readByte (v + 1)) (m.readByte v) else 0x0038 },
          if s.im = .im2 then 19 else 13) ∧
      deliverInterrupt s = { s.accept.1 with iCount := s.iCount - (if s.im = .im2 then 19 else 13) })

/-- 40_engine.md R171, 70_reset_and_hazards.md R576: of all instructions exactly EI, also behind a DD or FD, and the dangling
prefixes leave the interrupt inhibited at their boundary, and such a boundary accepts nothing. -/
def Obligations.InhibitedBoundary : Prop :=
  (∀ (i : Instr) (s t : State), i.wellFormed = true → exec i s = .next t →
    (t.intInhibit = true ↔ plainOf i = .ei ∨ dangles i = true)) ∧
  (∀ s : State, s.intInhibit = true → s.tapeActive = false →
    s.boundary.iff1 = s.iff1 ∧ s.boundary.pc = s.pc ∧ s.boundary.sp = s.sp ∧ s.boundary.mem = s.mem)

/-- 40_engine.md R152, R154, R174, 70_reset_and_hazards.md R583: a run call with a budget of 0 or less runs no iteration; one
with a positive budget returns, having used it up, and its last step began with some of it left. So it overshoots by less than
the cost of that step, the dearest instruction costing 23 cycles, plus, in the timed variant, the step's wait states, one of
the values drawn in the call (log entry 5), and, in the variant with interrupts, one acceptance of at most 19. The variant and
the elapsed count, which a run call of 0 resets too, are fields of the model's (log entries 10, 11). -/
def Obligations.RunConservation : Prop :=
  ∀ (v : Variant) (n : Int) (s : State),
    (n ≤ 0 → runCall v n s = .next { s with variant := v, elapsed := 0 }) ∧
    (0 < n → ∃ u t, runCall v n s = .next t ∧ n ≤ t.elapsed ∧ t.variant = v ∧
      u.elapsed < n ∧ u.variant = v ∧ step u = .next t ∧
      (v = .nonContendedNoInterrupt → t.elapsed < n + 23) ∧
      (v = .nonContended → t.elapsed < n + 23 + 19) ∧
      (v = .timed → ∃ k, s.draws ≤ k ∧ k < t.draws ∧ t.elapsed < n + 23 + Config.timedWait k))

/-- 40_engine.md R174: outside a tape load, a run call of a variant that does not re-arm lowers ICount by exactly the elapsed
count, modulo 2^32 (the counter's wrap is log entry 20). That no tape load begins inside the call is the model's choice (log
entry 27). -/
def Obligations.RunCounts : Prop :=
  ∀ (v : Variant) (n : Int) (s t : State), v ≠ .nonContended → s.tapeActive = false → runCall v n s = .next t →
    t.iCount = s.iCount - BitVec.ofInt 32 t.elapsed ∧ t.tapeActive = false

/-! ### Whole-machine rules: who writes what -/

/-- 20_memory.md R61, R65: an instruction changes no byte of memory outside the addresses it stores to, which `storedTo`
computes; for an instruction that stores nothing that list is empty and every byte reads as before. -/
def Obligations.MemoryFrame : Prop :=
  ∀ (i : Instr) (s t : State), i.wellFormed = true → exec i s = .next t →
    ∀ a : Word, a ∉ storedTo i s → t.readByte a = s.readByte a

/-- 20_memory.md R62, R74: a byte where MemWritable is false keeps its value in every instruction, and in every step that runs
outside a tape load, the acceptance of an interrupt included. The ranges and what begins a tape load are the model's choice
(log entries 2, 27). -/
def Obligations.ReadOnlyMemory : Prop :=
  (∀ (i : Instr) (s t : State) (a : Word), exec i s = .next t → s.writable a = false → t.readByte a = s.readByte a) ∧
  (∀ (s t : State) (a : Word), s.tapeActive = false → step s = .next t → s.writable a = false → t.readByte a = s.readByte a)

/-- 20_memory.md R65, R72: an instruction adds to the record of events, and takes a prepared port byte, only if it is a port
instruction; and no step drops or changes an event already recorded. The record and the prepared bytes are the model's form of
the hooks (log entries 3, 7). -/
def Obligations.EventsFrame : Prop :=
  (∀ (i : Instr) (s t : State), i.wellFormed = true → exec i s = .next t → usesPort i = false →
    t.events = s.events ∧ t.portInput = s.portInput) ∧
  (∀ s t : State, step s = .next t → ∃ l, t.events = s.events ++ l)

/-- 60_exceptions.md R522, R536, R539, 10_state.md R33, R34, R37, R39: no instruction writes IPeriod, IIntTime, the debug
fields, IRequest, the platform's writability, the tape flag or the variant. That no instruction writes the last three, which
are the platform's, the host's and the model's, is the model's choice (log entries 2, 6, 10, 27). -/
def Obligations.ResetOnlyFields : Prop :=
  ∀ (i : Instr) (s t : State), exec i s = .next t →
    t.iPeriod = s.iPeriod ∧ t.iIntTime = s.iIntTime ∧ t.debugTrapAddr = s.debugTrapAddr ∧ t.breakEnable = s.breakEnable ∧
    t.iRequest = s.iRequest ∧ t.readOnly = s.readOnly ∧ t.tapeActive = s.tapeActive ∧ t.variant = s.variant

/-- 10_state.md R29 to R31, R27, R38: which instructions write the interrupt flip-flops, the interrupt mode, halted, I and
DecodeErrors; a DD or FD that leaves its instruction as it is does not change the answer. No instruction clears halted. -/
def Obligations.ControlFrame : Prop :=
  ∀ (i : Instr) (s t : State), i.wellFormed = true → exec i s = .next t →
    ((∀ y, i ≠ .im0 y) ∧ (∀ y, i ≠ .im1 y) ∧ (∀ y, i ≠ .im2 y) → t.im = s.im) ∧
    (i ≠ .ldIA → t.i = s.i) ∧
    (plainOf i ≠ .di ∧ plainOf i ≠ .ei → t.iff2 = s.iff2) ∧
    (plainOf i ≠ .di ∧ plainOf i ≠ .ei ∧ i ≠ .reti ∧ (∀ y, i ≠ .retn y) → t.iff1 = s.iff1) ∧
    (plainOf i ≠ .halt → t.halted = s.halted) ∧
    (plainOf i = .halt → t.halted = true) ∧
    ((∀ k, i ≠ .undefEd77 k) ∧ (∀ k, i ≠ .undefEdX0 k) ∧ (∀ k, i ≠ .undefEdX2 k) ∧ (∀ k, i ≠ .undefEdX3 k) →
      t.decodeErrors = s.decodeErrors)

/-- 10_state.md R21, R28, 41_load8.md R219: bit 7 of R is changed by LD R,A alone; the shadow registers are changed by EX
AF,AF' and EXX alone, of which the first changes only A' and F' and the second leaves those two. -/
def Obligations.RefreshAndShadowFrame : Prop :=
  ∀ (i : Instr) (s t : State), i.wellFormed = true → exec i s = .next t →
    (i ≠ .ldRA → t.r.getLsbD 7 = s.r.getLsbD 7) ∧
    (plainOf i ≠ .exAfAf → t.shadow.a = s.shadow.a ∧ t.shadow.f = s.shadow.f) ∧
    (plainOf i ≠ .exx →
      t.shadow.b = s.shadow.b ∧ t.shadow.c = s.shadow.c ∧ t.shadow.d = s.shadow.d ∧ t.shadow.e = s.shadow.e ∧
      t.shadow.h = s.shadow.h ∧ t.shadow.l = s.shadow.l)

/-- The flag lines of 41_load8.md to 48_io_cpu_control.md: the instructions whose flag line holds `-` alone leave all eight
flags as they are. -/
def Obligations.FlagFrame : Prop :=
  ∀ (i : Instr) (s t : State), i.wellFormed = true → exec i s = .next t → keepsFlags i = true → t.main.f = s.main.f

/-! ### Memory -/

/-- 20_memory.md R61, R62: in a memory in canonical form a read after a write gives the byte written where the address is
writable, and every other byte, and every byte where it is not, reads as before; a write changes nothing but memory. That
MemWritable is a list of ranges in the state is the model's form of it (log entry 2). -/
def Obligations.ReadAfterWrite : Prop :=
  ∀ (s : State) (a b : Word) (v : Byte), s.Inv →
    ((s.writeByte a v).readByte b = if b = a ∧ s.writable a = true then v else s.readByte b) ∧
    s.writeByte a v = { s with mem := (s.writeByte a v).mem }

/-- 00_scope.md R12, 20_memory.md R67, R71: with the memory in canonical form and both bytes writable, Push16 lowers SP by 2
and puts the high byte at SP - 1 and the low byte at SP - 2; Pop16 then gives the value back and SP as it was. -/
def Obligations.PushThenPop : Prop :=
  ∀ (s : State) (v : Word), s.Inv → s.writable (s.sp - 1) = true → s.writable (s.sp - 2) = true →
    (s.push16 v).sp = s.sp - 2 ∧ (s.push16 v).readByte (s.sp - 1) = v.hi ∧ (s.push16 v).readByte (s.sp - 2) = v.lo ∧
    (s.push16 v).pop16.1 = v ∧ (s.push16 v).pop16.2.sp = s.sp

/-! ### Loads -/

/-- 41_load8.md R200 to R202, R205 to R207, R211, R214: the loads of an 8-bit register. -/
def Obligations.LoadRegister : Prop :=
  ∀ (s : State) (r q : Reg8) (n d : Byte) (nn : Word) (h : Half),
    exec (.ldRR r q) s = .next ((s.after 1 1 4).setReg r (s.reg q)) ∧
    exec (.ldRN r n) s = .next ((s.after 2 1 7).setReg r n) ∧
    exec (.ldRMemHl r) s = .next ((s.after 1 1 7).setReg r (s.readByte s.hl)) ∧
    exec .ldAMemBc s = .next ((s.after 1 1 7).setReg .a (s.readByte s.bc)) ∧
    exec .ldAMemDe s = .next ((s.after 1 1 7).setReg .a (s.readByte s.de)) ∧
    exec (.ldAMemNn nn) s = .next ((s.after 3 1 13).setReg .a (s.readByte nn)) ∧
    exec (.ldRMemIx r d) s = .next ((s.after 3 2 19).setReg r (s.readByte (displaced s.ix d))) ∧
    exec (.ldRMemIy r d) s = .next ((s.after 3 2 19).setReg r (s.readByte (displaced s.iy d))) ∧
    exec (.ldRIxHalf r h) s = .next ((s.after 2 2 8).setReg r (halfOf h s.ix)) ∧
    exec (.ldRIyHalf r h) s = .next ((s.after 2 2 8).setReg r (halfOf h s.iy))

/-- 10_state.md R20, 30_encoding.md R93, R94: what the registers named in these statements read after each way of writing one:
an 8-bit register alone, the two bytes of a pair, and every other register as before. -/
def Obligations.RegisterWrites : Prop :=
  ∀ (s : State) (r q : Reg8) (v : Byte) (w : Word),
    (s.setReg r v).reg q = (if q = r then v else s.reg q) ∧ (s.setReg r v).main.f = s.main.f ∧
    (s.setReg r v).ix = s.ix ∧ (s.setReg r v).iy = s.iy ∧ (s.setReg r v).sp = s.sp ∧ (s.setReg r v).mem = s.mem ∧
    (s.setBC w).bc = w ∧ (s.setDE w).de = w ∧ (s.setHL w).hl = w ∧ (s.setAF w).af = w ∧
    (s.setBC w).de = s.de ∧ (s.setBC w).hl = s.hl ∧ (s.setBC w).af = s.af ∧
    (s.setDE w).bc = s.bc ∧ (s.setDE w).hl = s.hl ∧ (s.setDE w).af = s.af ∧
    (s.setHL w).bc = s.bc ∧ (s.setHL w).de = s.de ∧ (s.setHL w).af = s.af ∧
    (s.setAF w).bc = s.bc ∧ (s.setAF w).de = s.de ∧ (s.setAF w).hl = s.hl

/-- 41_load8.md R214, R215: the loads of an index half; codes 4 and 5 of the source are halves too, and the other half is
kept. -/
def Obligations.LoadIndexHalf : Prop :=
  ∀ (s : State) (h : Half) (r : Reg8) (n : Byte),
    exec (.ldIxHalfR h r) s = .next { s.after 2 2 8 with ix := withHalf h s.ix (s.regWith s.ix r) } ∧
    exec (.ldIxHalfN h n) s = .next { s.after 3 2 11 with ix := withHalf h s.ix n } ∧
    exec (.ldIyHalfR h r) s = .next { s.after 2 2 8 with iy := withHalf h s.iy (s.regWith s.iy r) } ∧
    exec (.ldIyHalfN h n) s = .next { s.after 3 2 11 with iy := withHalf h s.iy n }

/-- 41_load8.md R203, R204, R208 to R210, R212, R213: the 8-bit stores. -/
def Obligations.StoreByte : Prop :=
  ∀ (s : State) (r : Reg8) (n d : Byte) (nn : Word),
    exec (.ldMemHlR r) s = .next ((s.after 1 1 7).writeByte s.hl (s.reg r)) ∧
    exec (.ldMemHlN n) s = .next ((s.after 2 1 10).writeByte s.hl n) ∧
    exec .ldMemBcA s = .next ((s.after 1 1 7).writeByte s.bc s.main.a) ∧
    exec .ldMemDeA s = .next ((s.after 1 1 7).writeByte s.de s.main.a) ∧
    exec (.ldMemNnA nn) s = .next ((s.after 3 1 13).writeByte nn s.main.a) ∧
    exec (.ldMemIxR d r) s = .next ((s.after 3 2 19).writeByte (displaced s.ix d) (s.reg r)) ∧
    exec (.ldMemIxN d n) s = .next ((s.after 4 2 19).writeByte (displaced s.ix d) n) ∧
    exec (.ldMemIyR d r) s = .next ((s.after 3 2 19).writeByte (displaced s.iy d) (s.reg r)) ∧
    exec (.ldMemIyN d n) s = .next ((s.after 4 2 19).writeByte (displaced s.iy d) n)

/-- 41_load8.md R216 to R219: LD A,I and LD A,R with their flags (PV = IFF2, C kept), R being read after both increments; LD
I,A and LD R,A, R being written after them. -/
def Obligations.LoadIAndR : Prop :=
  ∀ s : State,
    let flags := fun v : Byte =>
      flagByte (v.getLsbD 7) (v == 0) (v.getLsbD 5) false (v.getLsbD 3) s.iff2 false (s.main.f.getLsbD 0)
    exec .ldAI s = .next ((s.after 2 2 9).withAF (s.i, flags s.i)) ∧
    exec .ldAR s = .next ((s.after 2 2 9).withAF (refreshed s.r 2, flags (refreshed s.r 2))) ∧
    exec .ldIA s = .next { s.after 2 2 9 with i := s.main.a } ∧
    exec .ldRA s = .next { s.after 2 2 9 with r := s.main.a }

/-- 42_load16_exchange.md R240 to R242, R244, R246, R248, R249: the 16-bit loads of a pair, IX, IY or SP; a word in memory has
its low byte at the address given. -/
def Obligations.LoadPair : Prop :=
  ∀ (s : State) (p : Pair) (nn : Word),
    let word := Word.mk (s.readByte (nn + 1)) (s.readByte nn)
    exec (.ldRpNn p nn) s = .next ((s.after 3 1 10).setPair p nn) ∧
    exec (.ldHlMemNn nn) s = .next ((s.after 3 1 16).setPair .hl word) ∧
    exec (.ldRpMemNn p nn) s = .next ((s.after 4 2 20).setPair p word) ∧
    exec (.ldIxNn nn) s = .next { s.after 4 2 14 with ix := nn } ∧
    exec (.ldIyNn nn) s = .next { s.after 4 2 14 with iy := nn } ∧
    exec (.ldIxMemNn nn) s = .next { s.after 4 2 20 with ix := word } ∧
    exec (.ldIyMemNn nn) s = .next { s.after 4 2 20 with iy := word } ∧
    exec .ldSpHl s = .next { s.after 1 1 6 with sp := s.hl } ∧
    exec .ldSpIx s = .next { s.after 2 2 10 with sp := s.ix } ∧
    exec .ldSpIy s = .next { s.after 2 2 10 with sp := s.iy }

/-- 42_load16_exchange.md R243, R245, R247: the 16-bit stores, the low byte first and at the address given. -/
def Obligations.StoreWord : Prop :=
  ∀ (s : State) (p : Pair) (nn : Word),
    let store := fun (t : State) (w : Word) => (t.writeByte nn (halfOf .low w)).writeByte (nn + 1) (halfOf .high w)
    exec (.ldMemNnHl nn) s = .next (store (s.after 3 1 16) s.hl) ∧
    exec (.ldMemNnRp p nn) s = .next (store (s.after 4 2 20) (s.pairWith s.hl p)) ∧
    exec (.ldMemNnIx nn) s = .next (store (s.after 4 2 20) s.ix) ∧
    exec (.ldMemNnIy nn) s = .next (store (s.after 4 2 20) s.iy)

/-- 42_load16_exchange.md R250 to R253: PUSH writes the high byte at SP - 1, then the low byte at SP - 2; POP reads the low
byte at SP and the high byte at SP + 1. POP AF loads F. -/
def Obligations.PushAndPop : Prop :=
  ∀ (s : State) (p : StackPair),
    let push := fun (t : State) (w : Word) =>
      { (t.writeByte (s.sp - 1) (halfOf .high w)).writeByte (s.sp - 2) (halfOf .low w) with sp := s.sp - 2 }
    let top := Word.mk (s.readByte (s.sp + 1)) (s.readByte s.sp)
    exec (.pushRp2 p) s = .next (push (s.after 1 1 11) (s.stackPair p)) ∧
    exec .pushIx s = .next (push (s.after 2 2 15) s.ix) ∧
    exec .pushIy s = .next (push (s.after 2 2 15) s.iy) ∧
    exec (.popRp2 p) s = .next ({ s.after 1 1 10 with sp := s.sp + 2 }.setStackPair p top) ∧
    exec .popIx s = .next { s.after 2 2 14 with sp := s.sp + 2, ix := top } ∧
    exec .popIy s = .next { s.after 2 2 14 with sp := s.sp + 2, iy := top }

/-- 42_load16_exchange.md R254 to R258: the exchanges; EX (SP) reads both bytes, then writes SP + 1, then SP. -/
def Obligations.Exchanges : Prop :=
  ∀ s : State,
    let swap := fun (t : State) (w : Word) => (t.writeByte (s.sp + 1) (halfOf .high w)).writeByte s.sp (halfOf .low w)
    let top := Word.mk (s.readByte (s.sp + 1)) (s.readByte s.sp)
    exec .exDeHl s = .next
      { s.after 1 1 4 with main := { s.main with d := s.main.h, e := s.main.l, h := s.main.d, l := s.main.e } } ∧
    exec .exAfAf s = .next
      { s.after 1 1 4 with
        main := { s.main with a := s.shadow.a, f := s.shadow.f }
        shadow := { s.shadow with a := s.main.a, f := s.main.f } } ∧
    exec .exx s = .next
      { s.after 1 1 4 with
        main := { s.shadow with a := s.main.a, f := s.main.f }
        shadow := { s.main with a := s.shadow.a, f := s.shadow.f } } ∧
    exec .exMemSpHl s = .next ((swap (s.after 1 1 19) s.hl).setHL top) ∧
    exec .exMemSpIx s = .next { swap (s.after 2 2 23) s.ix with ix := top } ∧
    exec .exMemSpIy s = .next { swap (s.after 2 2 23) s.iy with iy := top }

/-! ### Block instructions -/

/-- The effect of one element of LDI (`inc` = 1) or LDD (`inc` = -1) on a state in which the fetch is done. -/
def movedElement (s t : State) (inc : Word) : State :=
  let v := s.readByte s.hl
  let n := v + s.main.a
  ((((t.writeByte s.de v).setHL (s.hl + inc)).setDE (s.de + inc)).setBC (s.bc - 1)).withF
    (flagByte (s.main.f.getLsbD 7) (s.main.f.getLsbD 6) (n.getLsbD 1) false (n.getLsbD 3) (s.bc - 1 != 0) false
      (s.main.f.getLsbD 0))

/-- The effect of one element of CPI (`inc` = 1) or CPD (`inc` = -1). -/
def searchedElement (s t : State) (inc : Word) : State :=
  let v := s.readByte s.hl
  let r := s.main.a - v
  let h := decide (s.main.a.toNat % 16 < v.toNat % 16)
  let n := r - Byte.ofBool h
  ((t.setHL (s.hl + inc)).setBC (s.bc - 1)).withF
    (flagByte (r.getLsbD 7) (r == 0) (n.getLsbD 1) h (n.getLsbD 3) (s.bc - 1 != 0) true (s.main.f.getLsbD 0))

/-- The flags of a block I/O element from the new B, the byte moved and the sum `k`. -/
def portElementFlags (b v : Byte) (k : Nat) : Byte :=
  flagByte (b.getLsbD 7) (b == 0) (b.getLsbD 5) (decide (k > 255)) (b.getLsbD 3)
    (onesBelow 8 (BitVec.ofNat 8 (k % 8) ^^^ b).toNat % 2 == 0) (v.getLsbD 7) (decide (k > 255))

/-- What a repeating element leaves: PC at the instruction again, 21 cycles, and the flag bits of `mask` from a draw of its
own. -/
def repeated (s : State) (effect : State → State) (mask : Byte) : State :=
  let u := effect { s.after 2 2 21 with pc := s.pc }
  { u with draws := u.draws + 1 }.withF (replaceBits mask u.main.f (Config.freeFlags u.draws))

/-- 43_block.md R280 to R285: LDI, LDD, and LDIR, LDDR, which repeat while BC is not 0 and then draw F.5 and F.3 (a free
value: log entry 4). -/
def Obligations.BlockTransfer : Prop :=
  ∀ s : State,
    exec .ldi s = .next (movedElement s (s.after 2 2 16) 1) ∧
    exec .ldd s = .next (movedElement s (s.after 2 2 16) (-1)) ∧
    exec .ldir s = .next
      (if s.bc = 1 then movedElement s (s.after 2 2 16) 1 else repeated s (fun t => movedElement s t 1) 0x28) ∧
    exec .lddr s = .next
      (if s.bc = 1 then movedElement s (s.after 2 2 16) (-1) else repeated s (fun t => movedElement s t (-1)) 0x28)

/-- 43_block.md R280, R281, R286 to R289: CPI, CPD, and CPIR, CPDR, which repeat while BC is not 0 and the byte is not A, and
then draw F.5 and F.3 (a free value: log entry 4). -/
def Obligations.BlockSearch : Prop :=
  ∀ s : State,
    let last := s.bc = 1 ∨ s.main.a = s.readByte s.hl
    exec .cpi s = .next (searchedElement s (s.after 2 2 16) 1) ∧
    exec .cpd s = .next (searchedElement s (s.after 2 2 16) (-1)) ∧
    (last → exec .cpir s = .next (searchedElement s (s.after 2 2 16) 1)) ∧
    (¬ last → exec .cpir s = .next (repeated s (fun t => searchedElement s t 1) 0x28)) ∧
    (last → exec .cpdr s = .next (searchedElement s (s.after 2 2 16) (-1))) ∧
    (¬ last → exec .cpdr s = .next (repeated s (fun t => searchedElement s t (-1)) 0x28))

/-- The block inputs when the port answers `v` and `read t p` is `t` after the read of port `p`: the port is B:C before B is
decremented; the byte is stored at HL; B, HL and the flags; the repeating forms repeat while B is not 0, from the same PC at
21 cycles, and draw F.5, F.3, H and PV. -/
def BlockInputsGive (s : State) (v : Byte) (read : State → Word → State) : Prop :=
  let element := fun (inc : Word) (t : State) =>
    ((((read t s.bc).writeByte s.hl v).setB (s.main.b - 1)).setHL (s.hl + inc)).withF
      (portElementFlags (s.main.b - 1) v (v.toNat + (s.main.c + inc.lo).toNat))
  let done := fun inc => Host.Outcome.next (element inc (s.after 2 2 16))
  exec .ini s = done 1 ∧
  exec .ind s = done (-1) ∧
  exec .inir s = (if s.main.b = 1 then done 1 else .next (repeated s (element 1) 0x3C)) ∧
  exec .indr s = (if s.main.b = 1 then done (-1) else .next (repeated s (element (-1)) 0x3C))

/-- 43_block.md R280, R281, R290 to R293, 20_memory.md R66: INI, IND, INIR, INDR with a byte `v` prepared for the port: the
event, the store at HL, B, HL and the flags; the repeating forms repeat while B is not 0 and draw F.5, F.3, H and PV (a free
value: log entry 4). The prepared byte is the model's form of the host's answer (log entry 3), and the read changes nothing of
the host's but that and the record (log entry 27). PortInputFree is the case with no byte prepared. -/
def Obligations.BlockInput : Prop :=
  ∀ (s : State) (v : Byte) (l : List Byte), s.portInput = v :: l →
    BlockInputsGive s v fun t p => { t with portInput := l, events := s.events ++ [HookEvent.ioRead p v] }

/-- 43_block.md R280, R281, R294 to R297, 20_memory.md R66: OUTI, OUTD, OTIR, OTDR: the port is B:C after B is decremented;
the repeating forms draw F.5, F.3, H and PV (a free value: log entry 4). That the hook leaves the tape flag as it is is the
model's choice (log entry 27). -/
def Obligations.BlockOutput : Prop :=
  ∀ s : State,
    let v := s.readByte s.hl
    let element := fun (inc : Word) (t : State) =>
      let u := { t with events := s.events ++ [HookEvent.ioWrite (Word.mk (s.main.b - 1) s.main.c) v] }
      ((u.setB (s.main.b - 1)).setHL (s.hl + inc)).withF
        (portElementFlags (s.main.b - 1) v (v.toNat + (s.hl + inc).toNat % 256))
    let done := fun inc => Host.Outcome.next (element inc (s.after 2 2 16))
    exec .outi s = done 1 ∧
    exec .outd s = done (-1) ∧
    exec .otir s = (if s.main.b = 1 then done 1 else .next (repeated s (element 1) 0x3C)) ∧
    exec .otdr s = (if s.main.b = 1 then done (-1) else .next (repeated s (element (-1)) 0x3C))

/-! ### Arithmetic -/

/-- 44_alu8.md R320 to R328: the eight operations on a register, (HL), an immediate, an index half and an indexed byte. The
row functions name the instructions of `alu[y]`: ADD, ADC, SUB, SBC, AND, XOR, OR, CP in the order of `y`. -/
def Obligations.AluOperations : Prop :=
  ∀ (s : State) (y : Fin 8) (r : Reg8) (h : Half) (n d : Byte),
    let result := fun (v : Byte) => aluResult y s.main.a s.main.f v
    exec (aluRegRow y r) s = .next ((s.after 1 1 4).withAF (result (s.reg r))) ∧
    exec (aluMemRow y) s = .next ((s.after 1 1 7).withAF (result (s.readByte s.hl))) ∧
    exec (aluImmRow y n) s = .next ((s.after 2 1 7).withAF (result n)) ∧
    exec (aluIxHalfRow y h) s = .next ((s.after 2 2 8).withAF (result (halfOf h s.ix))) ∧
    exec (aluIyHalfRow y h) s = .next ((s.after 2 2 8).withAF (result (halfOf h s.iy))) ∧
    exec (aluIxMemRow y d) s = .next ((s.after 3 2 19).withAF (result (s.readByte (displaced s.ix d)))) ∧
    exec (aluIyMemRow y d) s = .next ((s.after 3 2 19).withAF (result (s.readByte (displaced s.iy d))))

/-- 44_alu8.md R329 to R332: INC and DEC of a register, of an index half and of a byte of memory (one read, one write, F
written even where memory is not); C is kept. -/
def Obligations.IncrementDecrement : Prop :=
  ∀ (s : State) (r : Reg8) (h : Half) (d : Byte),
    let f := s.main.f
    let v := s.reg r
    let x := halfOf h s.ix
    let y := halfOf h s.iy
    let inc := fun (t : State) (a : Word) => (t.writeByte a (s.readByte a + 1)).withF (incFlags f (s.readByte a + 1))
    let dec := fun (t : State) (a : Word) =>
      (t.writeByte a (s.readByte a - 1)).withF (decFlags f (s.readByte a) (s.readByte a - 1))
    exec (.incR r) s = .next (((s.after 1 1 4).setReg r (v + 1)).withF (incFlags f (v + 1))) ∧
    exec (.decR r) s = .next (((s.after 1 1 4).setReg r (v - 1)).withF (decFlags f v (v - 1))) ∧
    exec (.incIxHalf h) s = .next ({ s.after 2 2 8 with ix := withHalf h s.ix (x + 1) }.withF (incFlags f (x + 1))) ∧
    exec (.decIxHalf h) s = .next ({ s.after 2 2 8 with ix := withHalf h s.ix (x - 1) }.withF (decFlags f x (x - 1))) ∧
    exec (.incIyHalf h) s = .next ({ s.after 2 2 8 with iy := withHalf h s.iy (y + 1) }.withF (incFlags f (y + 1))) ∧
    exec (.decIyHalf h) s = .next ({ s.after 2 2 8 with iy := withHalf h s.iy (y - 1) }.withF (decFlags f y (y - 1))) ∧
    exec .incMemHl s = .next (inc (s.after 1 1 11) s.hl) ∧
    exec .decMemHl s = .next (dec (s.after 1 1 11) s.hl) ∧
    exec (.incMemIx d) s = .next (inc (s.after 3 2 23) (displaced s.ix d)) ∧
    exec (.decMemIx d) s = .next (dec (s.after 3 2 23) (displaced s.ix d)) ∧
    exec (.incMemIy d) s = .next (inc (s.after 3 2 23) (displaced s.iy d)) ∧
    exec (.decMemIy d) s = .next (dec (s.after 3 2 23) (displaced s.iy d))

/-- 44_alu8.md R334 to R337: CPL, NEG (every field value), CCF and SCF; F.5 and F.3 of CCF and SCF are a draw (a free value:
log entry 4). -/
def Obligations.AccumulatorOps : Prop :=
  ∀ (s : State) (y : Fin 8),
    let a := s.main.a
    let f := s.main.f
    let na := ~~~ a
    let x := Config.freeFlags s.draws
    let flags := fun (h c : Bool) =>
      flagByte (f.getLsbD 7) (f.getLsbD 6) (x.getLsbD 5) h (x.getLsbD 3) (f.getLsbD 2) false c
    exec .cpl s = .next ((s.after 1 1 4).withAF
      (na, flagByte (f.getLsbD 7) (f.getLsbD 6) (na.getLsbD 5) true (na.getLsbD 3) (f.getLsbD 2) true (f.getLsbD 0))) ∧
    exec (.neg y) s = .next ((s.after 2 2 8).withAF (0 - a, subFlags 0 a false (0 - a))) ∧
    exec .ccf s = .next ({ s.after 1 1 4 with draws := s.draws + 1 }.withF (flags (f.getLsbD 0) (!f.getLsbD 0))) ∧
    exec .scf s = .next ({ s.after 1 1 4 with draws := s.draws + 1 }.withF (flags false true))

/-- 44_alu8.md R333: DAA, for every A and every F. -/
def Obligations.DecimalAdjust : Prop :=
  ∀ s : State,
    let a := s.main.a.toNat
    let hf := s.main.f.getLsbD 4
    let nf := s.main.f.getLsbD 1
    let cf := s.main.f.getLsbD 0
    let add : Nat := (if hf || decide (a % 16 > 9) then 6 else 0) + (if cf || decide (a > 0x99) then 0x60 else 0)
    let res : Byte := if nf then BitVec.ofInt 8 ((a : Int) - add) else BitVec.ofNat 8 (a + add)
    let h := if nf then hf && decide (a % 16 < 6) else decide (a % 16 > 9)
    exec .daa s = .next ((s.after 1 1 4).withAF (res, parityFlags res h nf (cf || decide (a > 0x99))))

/-- 45_alu16.md R370 to R373: the 16-bit additions and subtractions; rp[2] of ADD IX,rp is IX itself. -/
def Obligations.Arithmetic16 : Prop :=
  ∀ (s : State) (p : Pair),
    let f := s.main.f
    let c := f.getLsbD 0
    let w := s.pairWith s.hl p
    let x := s.pairWith s.ix p
    let y := s.pairWith s.iy p
    exec (.addHlRp p) s = .next (((s.after 1 1 11).setHL (s.hl + w)).withF (add16Flags f s.hl w)) ∧
    exec (.addIxRp p) s = .next ({ s.after 2 2 15 with ix := s.ix + x }.withF (add16Flags f s.ix x)) ∧
    exec (.addIyRp p) s = .next ({ s.after 2 2 15 with iy := s.iy + y }.withF (add16Flags f s.iy y)) ∧
    exec (.adcHlRp p) s =
      .next (((s.after 2 2 15).setHL (BitVec.ofNat 16 (s.hl.toNat + w.toNat + c.toNat))).withF (adcFlags s.hl w c)) ∧
    exec (.sbcHlRp p) s =
      .next (((s.after 2 2 15).setHL (BitVec.ofInt 16 (s.hl.toNat - w.toNat - c.toNat))).withF (sbcFlags s.hl w c))

/-- 45_alu16.md R374, R375: INC and DEC of a pair and of IX and IY; no flag changes. -/
def Obligations.IncDecPair : Prop :=
  ∀ (s : State) (p : Pair),
    exec (.incRp p) s = .next ((s.after 1 1 6).setPair p (s.pairWith s.hl p + 1)) ∧
    exec (.decRp p) s = .next ((s.after 1 1 6).setPair p (s.pairWith s.hl p - 1)) ∧
    exec .incIx s = .next { s.after 2 2 10 with ix := s.ix + 1 } ∧
    exec .decIx s = .next { s.after 2 2 10 with ix := s.ix - 1 } ∧
    exec .incIy s = .next { s.after 2 2 10 with iy := s.iy + 1 } ∧
    exec .decIy s = .next { s.after 2 2 10 with iy := s.iy - 1 }

/-- 40_engine.md R130 to R137, R140 to R142, R146 to R148: the flag tables, and the flag generator, which the spec gives by
tables of half-carry and overflow and in the closed forms it derives from R134 to R137. For SBC16 it writes no closed form of
H and PV: those here are SUB8's at bits 11 and 15, the model's inference. -/
def Obligations.FlagClosedForms : Prop :=
  (∀ v : Byte,
    sz53 v = (if v = 0 then 0x40 else v &&& 0xA8) ∧
    parity v = (if onesBelow 8 v.toNat % 2 = 0 then 0x04 else 0x00) ∧
    sz53p v = sz53 v ||| parity v ∧ sz53p v = parityFlags v false false false) ∧
  (∀ (a b : Byte) (c : Bool), (add8 a b c).2 = addFlags a b c ∧ (add8 a b c).1 = a + b + Byte.ofBool c) ∧
  (∀ (a b : Byte) (c : Bool),
    (sub8 a b c).2 = subFlags a b c (a - b - Byte.ofBool c) ∧ (sub8 a b c).1 = a - b - Byte.ofBool c) ∧
  (∀ a b : Byte, cp8 a b = subFlags a b false b) ∧
  (∀ (f : Byte) (a b : Word), (add16 f a b).2 = add16Flags f a b ∧ (add16 f a b).1 = a + b) ∧
  (∀ (a b : Word) (c : Bool),
    (adc16 a b c).2 = adcFlags a b c ∧ (adc16 a b c).1 = BitVec.ofNat 16 (a.toNat + b.toNat + c.toNat)) ∧
  (∀ (a b : Word) (c : Bool),
    (sbc16 a b c).2 = sbcFlags a b c ∧ (sbc16 a b c).1 = BitVec.ofInt 16 (a.toNat - b.toNat - c.toNat))

/-! ### Rotates, shifts, bits -/

/-- 46_rotate_bit.md R390 to R393: RLCA, RRCA, RLA, RRA: S, Z and PV kept, H and N cleared. -/
def Obligations.AccumulatorRotates : Prop :=
  ∀ s : State,
    let f := s.main.f
    let rotated := fun (y : Fin 8) =>
      let o := rotResult y s.main.a (f.getLsbD 0)
      (o.1, flagByte (f.getLsbD 7) (f.getLsbD 6) (o.1.getLsbD 5) false (o.1.getLsbD 3) (f.getLsbD 2) false o.2)
    exec .rlca s = .next ((s.after 1 1 4).withAF (rotated 0)) ∧
    exec .rrca s = .next ((s.after 1 1 4).withAF (rotated 1)) ∧
    exec .rla s = .next ((s.after 1 1 4).withAF (rotated 2)) ∧
    exec .rra s = .next ((s.after 1 1 4).withAF (rotated 3))

/-- 46_rotate_bit.md R394 to R402: the eight rotates and shifts of a register, of the byte at HL and of an indexed byte, and
the forms that also load an indexed result into a register, codes 4 and 5 being H and L. The row functions name the
instructions of `rot[y]`: RLC, RRC, RL, RR, SLA, SRA, SLL, SRL in the order of `y`. -/
def Obligations.RotatesAndShifts : Prop :=
  ∀ (s : State) (y : Fin 8) (r : Reg8) (d : Byte),
    let o := fun (v : Byte) => rotResult y v (s.main.f.getLsbD 0)
    let flags := fun (v : Byte) => parityFlags (o v).1 false false (o v).2
    let mem := fun (t : State) (a : Word) => (t.writeByte a (o (s.readByte a)).1).withF (flags (s.readByte a))
    let ix := displaced s.ix d
    let iy := displaced s.iy d
    exec (rotRegRow y r) s = .next (((s.after 2 2 8).setReg r (o (s.reg r)).1).withF (flags (s.reg r))) ∧
    exec (rotMemRow y) s = .next (mem (s.after 2 2 15) s.hl) ∧
    exec (rotMemIxRow y d) s = .next (mem (s.after 4 2 23) ix) ∧
    exec (rotMemIxCopyRow y d r) s = .next ((mem (s.after 4 2 23) ix).setReg r (o (s.readByte ix)).1) ∧
    exec (rotMemIyRow y d) s = .next (mem (s.after 4 2 23) iy) ∧
    exec (rotMemIyCopyRow y d r) s = .next ((mem (s.after 4 2 23) iy).setReg r (o (s.readByte iy)).1)

/-- 46_rotate_bit.md R405 to R407: BIT of a register, of (HL), where F.5 and F.3 are a draw (a free value: log entry 4), and
of an indexed byte, where they are bits 13 and 11 of its address; nothing but F is written. -/
def Obligations.TestBit : Prop :=
  ∀ (s : State) (b : Fin 8) (r : Reg8) (d : Byte) (z : Fin 8),
    let flags := fun (v : Byte) (f5 f3 : Bool) =>
      flagByte (decide (b.val = 7) && v.getLsbD b) (!v.getLsbD b) f5 true f3 (!v.getLsbD b) false (s.main.f.getLsbD 0)
    let v := s.reg r
    let x := Config.freeFlags s.draws
    let ix := displaced s.ix d
    let iy := displaced s.iy d
    exec (.bitR b r) s = .next ((s.after 2 2 8).withF (flags v (v.getLsbD 5) (v.getLsbD 3))) ∧
    exec (.bitMemHl b) s = .next
      ({ s.after 2 2 12 with draws := s.draws + 1 }.withF (flags (s.readByte s.hl) (x.getLsbD 5) (x.getLsbD 3))) ∧
    exec (.bitMemIx b d z) s = .next ((s.after 4 2 20).withF (flags (s.readByte ix) (ix.getLsbD 13) (ix.getLsbD 11))) ∧
    exec (.bitMemIy b d z) s = .next ((s.after 4 2 20).withF (flags (s.readByte iy) (iy.getLsbD 13) (iy.getLsbD 11)))

/-- A byte with bit `b` as given and every other bit kept. -/
def bitSet (v : Byte) (b : Fin 8) (x : Bool) : Byte :=
  BitVec.ofNat 8 (v.toNat - v.toNat / 2 ^ b.val % 2 * 2 ^ b.val + x.toNat * 2 ^ b.val)

/-- 46_rotate_bit.md R408, R409, R394: RES and SET of a register, of (HL), of an indexed byte, and the forms that also load
the result into a register; no flag changes. -/
def Obligations.ResetAndSetBit : Prop :=
  ∀ (s : State) (b : Fin 8) (r : Reg8) (d : Byte),
    let mem := fun (x : Bool) (t : State) (a : Word) => t.writeByte a (bitSet (s.readByte a) b x)
    let copy := fun (x : Bool) (t : State) (a : Word) =>
      (t.writeByte a (bitSet (s.readByte a) b x)).setReg r (bitSet (s.readByte a) b x)
    let ix := displaced s.ix d
    let iy := displaced s.iy d
    exec (.resR b r) s = .next ((s.after 2 2 8).setReg r (bitSet (s.reg r) b false)) ∧
    exec (.setR b r) s = .next ((s.after 2 2 8).setReg r (bitSet (s.reg r) b true)) ∧
    exec (.resMemHl b) s = .next (mem false (s.after 2 2 15) s.hl) ∧
    exec (.setMemHl b) s = .next (mem true (s.after 2 2 15) s.hl) ∧
    exec (.resMemIx b d) s = .next (mem false (s.after 4 2 23) ix) ∧
    exec (.setMemIx b d) s = .next (mem true (s.after 4 2 23) ix) ∧
    exec (.resMemIxR b d r) s = .next (copy false (s.after 4 2 23) ix) ∧
    exec (.setMemIxR b d r) s = .next (copy true (s.after 4 2 23) ix) ∧
    exec (.resMemIy b d) s = .next (mem false (s.after 4 2 23) iy) ∧
    exec (.setMemIy b d) s = .next (mem true (s.after 4 2 23) iy) ∧
    exec (.resMemIyR b d r) s = .next (copy false (s.after 4 2 23) iy) ∧
    exec (.setMemIyR b d r) s = .next (copy true (s.after 4 2 23) iy)

/-- 46_rotate_bit.md R403, R404: RLD and RRD rotate the nibbles of A's low half and the byte at HL; C is kept. -/
def Obligations.DecimalRotates : Prop :=
  ∀ s : State,
    let a := s.main.a.toNat
    let m := (s.readByte s.hl).toNat
    let done := fun (stored acc : Byte) =>
      Host.Outcome.next (((s.after 2 2 18).writeByte s.hl stored).withAF
        (acc, parityFlags acc false false (s.main.f.getLsbD 0)))
    exec .rld s = done (BitVec.ofNat 8 (m % 16 * 16 + a % 16)) (BitVec.ofNat 8 (a / 16 * 16 + m / 16)) ∧
    exec .rrd s = done (BitVec.ofNat 8 (a % 16 * 16 + m / 16)) (BitVec.ofNat 8 (a / 16 * 16 + m % 16))

/-! ### Control -/

/-- 47_control.md R440 to R446: the jumps; a condition reads the flag its code names; a relative jump counts from the address
after the instruction; DJNZ decrements B and changes no flag. -/
def Obligations.Jumps : Prop :=
  ∀ (s : State) (cc : Cond) (nn : Word) (e : Byte),
    let taken := condOf cc s.main.f
    let b := s.main.b - 1
    exec (.jpNn nn) s = .next { s.after 3 1 10 with pc := nn } ∧
    exec (.jpCcNn cc nn) s = .next (if taken then { s.after 3 1 10 with pc := nn } else s.after 3 1 10) ∧
    exec (.jr e) s = .next { s.after 2 1 12 with pc := displaced (s.pc + 2) e } ∧
    exec (.jrCc cc e) s = .next (if taken then { s.after 2 1 12 with pc := displaced (s.pc + 2) e } else s.after 2 1 7) ∧
    exec .jpHl s = .next { s.after 1 1 4 with pc := s.hl } ∧
    exec .jpIx s = .next { s.after 2 2 8 with pc := s.ix } ∧
    exec .jpIy s = .next { s.after 2 2 8 with pc := s.iy } ∧
    exec (.djnz e) s = .next
      (if b = 0 then (s.after 2 1 8).setReg .b b
        else { (s.after 2 1 13).setReg .b b with pc := displaced (s.pc + 2) e })

/-- 47_control.md R447 to R453: the calls, restarts and returns; a call pushes the address after it; RETI and RETN also copy
IFF2 into IFF1. -/
def Obligations.CallsAndReturns : Prop :=
  ∀ (s : State) (cc : Cond) (nn : Word) (y : Fin 8),
    let taken := condOf cc s.main.f
    let call := fun (t : State) (target : Word) =>
      { (t.writeByte (s.sp - 1) (halfOf .high t.pc)).writeByte (s.sp - 2) (halfOf .low t.pc) with
        sp := s.sp - 2, pc := target }
    let back := fun (t : State) =>
      { t with sp := s.sp + 2, pc := Word.mk (s.readByte (s.sp + 1)) (s.readByte s.sp) }
    exec (.callNn nn) s = .next (call (s.after 3 1 17) nn) ∧
    exec (.callCcNn cc nn) s = .next (if taken then call (s.after 3 1 17) nn else s.after 3 1 10) ∧
    exec (.rst y) s = .next (call (s.after 1 1 11) (BitVec.ofNat 16 (8 * y.val))) ∧
    exec .ret s = .next (back (s.after 1 1 10)) ∧
    exec (.retCc cc) s = .next (if taken then back (s.after 1 1 11) else s.after 1 1 5) ∧
    exec .reti s = .next { back (s.after 2 2 14) with iff1 := s.iff2 } ∧
    exec (.retn y) s = .next { back (s.after 2 2 14) with iff1 := s.iff2 }

/-! ### Ports and CPU control -/

/-- IN A,(n), IN r,(C) and IN F,(C) when the port answers `v` and `read t p` is `t` after the read of port `p`: the port, the
register and the flags. -/
def PortInputsGive (s : State) (v : Byte) (read : State → Word → State) : Prop :=
  ∀ (n : Byte) (r : Reg8),
    let flags := parityFlags v false false (s.main.f.getLsbD 0)
    exec (.inAN n) s = .next ((read (s.after 2 1 11) (Word.mk s.main.a n)).setReg .a v) ∧
    exec (.inRC r) s = .next (((read (s.after 2 2 12) s.bc).setReg r v).withF flags) ∧
    exec .inFC s = .next ((read (s.after 2 2 12) s.bc).withF flags)

/-- 48_io_cpu_control.md R480 to R482, 20_memory.md R63, R66: the port inputs with a byte `v` prepared for the port: the
event, the register and the flags. The prepared byte is the model's form of the host's answer (log entry 3), and the read
changes nothing of the host's but that and the record (log entry 27). PortInputFree is the case with no byte prepared. -/
def Obligations.PortInput : Prop :=
  ∀ (s : State) (v : Byte) (l : List Byte), s.portInput = v :: l →
    PortInputsGive s v fun t p => { t with portInput := l, events := s.events ++ [HookEvent.ioRead p v] }

/-- 48_io_cpu_control.md R480 to R482, 43_block.md R280, R281, R290 to R293, 20_memory.md R63, R66, 92_eei_decisions.md D3:
with no byte prepared the port inputs and the block inputs do the same on a free byte (log entry 3): the event, the register
or the store at HL, B, HL, the flags, PC, R, the cost and the repeat, whose drawn flags are a free value of their own (log
entry 4). The read takes one draw and changes nothing of the host's but the record (log entry 27). -/
def Obligations.PortInputFree : Prop :=
  ∀ s : State, s.portInput = [] →
    let v := Config.freePortByte s.draws
    let read := fun (t : State) (p : Word) => { t with draws := s.draws + 1, events := s.events ++ [HookEvent.ioRead p v] }
    PortInputsGive s v read ∧ BlockInputsGive s v read

/-- 48_io_cpu_control.md R483 to R485, 20_memory.md R64, R66: the port outputs make their event and write no CPU state. That
the hook leaves the tape flag as it is is the model's choice (log entry 27). -/
def Obligations.PortOutput : Prop :=
  ∀ (s : State) (n : Byte) (r : Reg8),
    let write := fun (t : State) (port : Word) (v : Byte) => { t with events := s.events ++ [HookEvent.ioWrite port v] }
    exec (.outNA n) s = .next (write (s.after 2 1 11) (Word.mk s.main.a n) s.main.a) ∧
    exec (.outCR r) s = .next (write (s.after 2 2 12) s.bc (s.reg r)) ∧
    exec .outC0 s = .next (write (s.after 2 2 12) s.bc 0x00)

/-- 48_io_cpu_control.md R486 to R493: NOP, HALT, DI, EI (the next boundary is inhibited), IM, and the undefined ED opcodes,
which add one to DecodeErrors and do nothing else. -/
def Obligations.CpuControl : Prop :=
  ∀ (s : State) (y : Fin 8) (k : Fin 64) (b : Bool),
    let undef := Host.Outcome.next { s.after 2 2 8 with decodeErrors := s.decodeErrors + 1 }
    exec .nop s = .next (s.after 1 1 4) ∧
    exec .halt s = .next { s.after 1 1 4 with halted := true } ∧
    exec .di s = .next { s.after 1 1 4 with iff1 := false, iff2 := false } ∧
    exec .ei s = .next { s.after 1 1 4 with iff1 := true, iff2 := true, intInhibit := true } ∧
    exec (.im0 y) s = .next { s.after 2 2 8 with im := .im0 } ∧
    exec (.im1 y) s = .next { s.after 2 2 8 with im := .im1 } ∧
    exec (.im2 y) s = .next { s.after 2 2 8 with im := .im2 } ∧
    exec (.undefEd77 b) s = undef ∧ exec (.undefEdX0 k) s = undef ∧ exec (.undefEdX2 k) s = undef ∧
    exec (.undefEdX3 k) s = undef

/-! ### Prefixes -/

/-- 40_engine.md R168: DD or FD before DD, FD or ED is a 4-cycle no-op of one byte that inhibits the interrupt. -/
def Obligations.DanglingPrefix : Prop :=
  ∀ (s : State) (i : Instr), dangles i = true → exec i s = .next { s.after 1 1 4 with intInhibit := true }

/-- 40_engine.md R167: DD or FD before an instruction that does not use HL does what that instruction does one byte later,
with one more increment of R and 4 more cycles; the two prefixes do the same. -/
def Obligations.FallThrough : Prop :=
  ∀ (s : State) (i : Instr), i.fallsThrough = true →
    ∃ t, exec i { s with pc := s.pc + 1, r := refreshed s.r 1 } = .next t ∧
      exec (.fallThroughDD i) s =
        .next { t with iCount := t.iCount - 4, elapsed := t.elapsed + 4 } ∧
      exec (.fallThroughFD i) s = exec (.fallThroughDD i) s

/-- 40_engine.md R165, R169, R170: a prefix row does what the row does that the next bytes name in the table it sends the
decoder to, and it completes. That these rows are constructors of their own is the model's choice (log entry 15). -/
def Obligations.PrefixRows : Prop :=
  ∀ (s : State) (b1 b2 b3 : Byte),
    Goes (exec (.prefixCB b1) s) ∧ exec (.prefixCB b1) s = exec (cbTable b1) s ∧
    Goes (exec (.prefixED b1 b2 b3) s) ∧ exec (.prefixED b1 b2 b3) s = exec (edTable b1 b2 b3) s ∧
    Goes (exec (.prefixDD b1 b2 b3) s) ∧ exec (.prefixDD b1 b2 b3) s = exec (resolveIndexedBit (ddTable b1 b2 b3)) s ∧
    Goes (exec (.prefixFD b1 b2 b3) s) ∧ exec (.prefixFD b1 b2 b3) s = exec (resolveIndexedBit (fdTable b1 b2 b3)) s ∧
    Goes (exec (.ddCb b1 b2) s) ∧ exec (.ddCb b1 b2) s = exec (ddcbTable b1 b2) s ∧
    Goes (exec (.fdCb b1 b2) s) ∧ exec (.fdCb b1 b2) s = exec (fdcbTable b1 b2) s
end

