-- ==== Sys2Proof/Laws/Memory.lean ====
section
/-! SUPPORT. The laws of memory: what a read gives after a write, and that every memory operation keeps the canonical form. -/

namespace Sys2Proof.Machine

theorem Memory.wfFrom_cons {low a : Nat} {v : Byte} {m : Memory} :
    Memory.wfFrom low ((a, v) :: m) = true ↔ low ≤ a ∧ a < 65536 ∧ v ≠ Memory.blank ∧ Memory.wfFrom (a + 1) m = true := by
  simp [Memory.wfFrom, and_assoc]

theorem Memory.wfFrom_mono {low low' : Nat} {m : Memory} (h : low' ≤ low) (hm : Memory.wfFrom low m = true) :
    Memory.wfFrom low' m = true := by
  cases m with
  | nil => rfl
  | cons c m =>
    obtain ⟨a, v⟩ := c
    rw [Memory.wfFrom_cons] at hm ⊢
    exact ⟨by omega, hm.2⟩

/-- Below the lowest address a canonical memory reads as blank. -/
theorem Memory.read_below {low : Nat} {m : Memory} (hm : Memory.wfFrom low m = true) {a : Nat} (ha : a < low) :
    Memory.read m a = Memory.blank := by
  induction m generalizing low with
  | nil => rfl
  | cons c m ih =>
    obtain ⟨b, v⟩ := c
    rw [Memory.wfFrom_cons] at hm
    rw [Memory.read, if_neg (by omega)]
    exact ih hm.2.2.2 (by omega)

/-- A write keeps the canonical form. -/
theorem Memory.wfFrom_write {low : Nat} {m : Memory} (hm : Memory.wfFrom low m = true) {a : Nat} (hl : low ≤ a)
    (ha : a < 65536) (v : Byte) : Memory.wfFrom low (Memory.write m a v) = true := by
  induction m generalizing low with
  | nil =>
    rw [Memory.write]
    split
    · rfl
    · exact Memory.wfFrom_cons.2 ⟨hl, ha, ‹_›, rfl⟩
  | cons c m ih =>
    obtain ⟨b, w⟩ := c
    have hm' := Memory.wfFrom_cons.1 hm
    rw [Memory.write]
    split
    · split
      · exact hm
      · exact Memory.wfFrom_cons.2 ⟨hl, ha, ‹_›, Memory.wfFrom_cons.2 ⟨by omega, hm'.2⟩⟩
    · split
      · split
        · exact Memory.wfFrom_mono (by omega) hm'.2.2.2
        · exact Memory.wfFrom_cons.2 ⟨hl, ha, ‹_›, by subst_vars; exact hm'.2.2.2⟩
      · exact Memory.wfFrom_cons.2 ⟨hm'.1, hm'.2.1, hm'.2.2.1, ih hm'.2.2.2 (by omega)⟩

/-- A write leaves every other address, in any memory. -/
theorem Memory.read_write_other (m : Memory) {a b : Nat} (h : b ≠ a) (v : Byte) :
    Memory.read (Memory.write m a v) b = Memory.read m b := by
  induction m with
  | nil =>
    rw [Memory.write]
    split
    · rfl
    · simp [Memory.read, h]
  | cons c m ih =>
    obtain ⟨k, w⟩ := c
    rw [Memory.write]
    split
    · split
      · rfl
      · rw [Memory.read, if_neg h]
    · split
      · subst_vars
        split
        · rw [Memory.read, if_neg h]
        · rw [Memory.read, if_neg h, Memory.read, if_neg h]
      · rw [Memory.read, Memory.read, ih]

/-- A write is read back, in a canonical memory. -/
theorem Memory.read_write_same {low : Nat} {m : Memory} (hm : Memory.wfFrom low m = true) (a : Nat) (v : Byte) :
    Memory.read (Memory.write m a v) a = v := by
  induction m generalizing low with
  | nil =>
    rw [Memory.write]
    split
    · exact Eq.symm ‹_›
    · rw [Memory.read, if_pos rfl]
  | cons c m ih =>
    obtain ⟨k, w⟩ := c
    have hm' := Memory.wfFrom_cons.1 hm
    rw [Memory.write]
    split
    · split
      · rw [Memory.read, if_neg (by omega), Memory.read_below hm'.2.2.2 (by omega)]
        exact Eq.symm ‹_›
      · rw [Memory.read, if_pos rfl]
    · split
      · split
        · rw [Memory.read_below hm'.2.2.2 (by omega)]
          exact Eq.symm ‹_›
        · rw [Memory.read, if_pos rfl]
      · rw [Memory.read, if_neg ‹_›, ih hm'.2.2.2]

theorem Memory.wf_write {m : Memory} (hm : Memory.wf m = true) (a : Word) (v : Byte) :
    Memory.wf (Memory.write m a.toNat v) = true :=
  Memory.wfFrom_write hm (Nat.zero_le _) a.isLt v

theorem Memory.wf_storeAll {m : Memory} (hm : Memory.wf m = true) (l : List (Word × Byte)) :
    Memory.wf (Memory.storeAll m l) = true := by
  induction l generalizing m with
  | nil => exact hm
  | cons c l ih => exact ih (Memory.wf_write hm c.1 c.2)

/-! ### The operations of State -/

/-- All that a byte write can do: nothing but memory changes, and memory only where it is writable. -/
theorem State.writeByte_eq (s : State) (a : Word) (v : Byte) :
    s.writeByte a v = { s with mem := (s.writeByte a v).mem } := by
  rfl

theorem State.writeByte_mem (s : State) (a : Word) (v : Byte) :
    (s.writeByte a v).mem = if s.writable a = true then Memory.write s.mem a.toNat v else s.mem := by
  rfl

theorem State.writeByte_wf {s : State} (h : Memory.wf s.mem = true) (a : Word) (v : Byte) :
    Memory.wf (s.writeByte a v).mem = true := by
  rw [State.writeByte_mem]
  split
  · exact Memory.wf_write h a v
  · exact h

theorem State.writeWord_wf {s : State} (h : Memory.wf s.mem = true) (a v : Word) :
    Memory.wf (s.writeWord a v).mem = true :=
  State.writeByte_wf (State.writeByte_wf h a _) (a + 1) _

theorem State.push16_wf {s : State} (h : Memory.wf s.mem = true) (v : Word) : Memory.wf (s.push16 v).mem = true := by
  unfold State.push16
  refine State.writeByte_wf ?_ _ _
  exact State.writeByte_wf (s := { s with sp := s.sp - 1 }) h _ _

theorem State.placeBytes_wf {s : State} (h : Memory.wf s.mem = true) (a : Word) (l : List Byte) :
    Memory.wf (s.placeBytes a l).mem = true := by
  induction l generalizing s a with
  | nil => exact h
  | cons v l ih => exact ih (s := { s with mem := Memory.write s.mem a.toNat v }) (Memory.wf_write h a v) (a + 1)

theorem State.tapeHook_wf {s : State} (h : Memory.wf s.mem = true) : Memory.wf s.tapeHook.mem = true := by
  unfold State.tapeHook
  split
  · exact Memory.wf_storeAll h _
  · exact h

/-- A write leaves the bytes at every other address. -/
theorem State.readByte_writeByte_other (s : State) {a b : Word} (h : b ≠ a) (v : Byte) :
    (s.writeByte a v).readByte b = s.readByte b := by
  unfold State.readByte
  rw [State.writeByte_mem]
  split
  · exact Memory.read_write_other _ (fun e => h (BitVec.eq_of_toNat_eq e)) v
  · rfl

/-- A write to a read-only address does nothing. -/
theorem State.writeByte_readOnly {s : State} {a : Word} (h : s.writable a = false) (v : Byte) : s.writeByte a v = s := by
  simp [State.writeByte, h]

theorem State.writable_writeByte (s : State) (a b : Word) (v : Byte) : (s.writeByte a v).writable b = s.writable b := by
  rw [State.writeByte_eq]
  rfl

/-- A write leaves every read-only byte. -/
theorem State.readByte_writeByte_readOnly {s : State} {b : Word} (h : s.writable b = false) (a : Word) (v : Byte) :
    (s.writeByte a v).readByte b = s.readByte b := by
  by_cases e : b = a
  · subst e
    rw [State.writeByte_readOnly h]
  · exact State.readByte_writeByte_other s e v

theorem reset_wf : Memory.wf State.reset.mem = true := rfl

end Sys2Proof.Machine
end

