-- ==== Sys2Proof/Laws/State.lean ====
section
/-! SUPPORT. What each update of a state leaves as it was, field by field (one lemma per update, a conjunction that simp uses as
one rule per field), and what it writes. No later proof unfolds a record update. -/

namespace Sys2Proof.Machine

/-- `setA` writes main alone. -/
@[simp] theorem State.setA_frame (s : State) (v : Byte) :
    (s.setA v).shadow = s.shadow ∧ (s.setA v).ix = s.ix ∧ (s.setA v).iy = s.iy ∧ (s.setA v).sp = s.sp ∧
    (s.setA v).pc = s.pc ∧ (s.setA v).i = s.i ∧ (s.setA v).r = s.r ∧ (s.setA v).iff1 = s.iff1 ∧ (s.setA v).iff2 = s.iff2 ∧
    (s.setA v).im = s.im ∧ (s.setA v).halted = s.halted ∧ (s.setA v).iCount = s.iCount ∧ (s.setA v).iPeriod = s.iPeriod ∧
    (s.setA v).iIntTime = s.iIntTime ∧ (s.setA v).idx = s.idx ∧ (s.setA v).intInhibit = s.intInhibit ∧
    (s.setA v).debugTrapAddr = s.debugTrapAddr ∧ (s.setA v).breakEnable = s.breakEnable ∧
    (s.setA v).decodeErrors = s.decodeErrors ∧ (s.setA v).iRequest = s.iRequest ∧ (s.setA v).mem = s.mem ∧
    (s.setA v).readOnly = s.readOnly ∧ (s.setA v).tapeActive = s.tapeActive ∧ (s.setA v).events = s.events ∧
    (s.setA v).portInput = s.portInput ∧ (s.setA v).variant = s.variant ∧ (s.setA v).elapsed = s.elapsed ∧
    (s.setA v).draws = s.draws := by repeat' constructor

/-- `setF` writes main alone. -/
@[simp] theorem State.setF_frame (s : State) (v : Byte) :
    (s.setF v).shadow = s.shadow ∧ (s.setF v).ix = s.ix ∧ (s.setF v).iy = s.iy ∧ (s.setF v).sp = s.sp ∧
    (s.setF v).pc = s.pc ∧ (s.setF v).i = s.i ∧ (s.setF v).r = s.r ∧ (s.setF v).iff1 = s.iff1 ∧ (s.setF v).iff2 = s.iff2 ∧
    (s.setF v).im = s.im ∧ (s.setF v).halted = s.halted ∧ (s.setF v).iCount = s.iCount ∧ (s.setF v).iPeriod = s.iPeriod ∧
    (s.setF v).iIntTime = s.iIntTime ∧ (s.setF v).idx = s.idx ∧ (s.setF v).intInhibit = s.intInhibit ∧
    (s.setF v).debugTrapAddr = s.debugTrapAddr ∧ (s.setF v).breakEnable = s.breakEnable ∧
    (s.setF v).decodeErrors = s.decodeErrors ∧ (s.setF v).iRequest = s.iRequest ∧ (s.setF v).mem = s.mem ∧
    (s.setF v).readOnly = s.readOnly ∧ (s.setF v).tapeActive = s.tapeActive ∧ (s.setF v).events = s.events ∧
    (s.setF v).portInput = s.portInput ∧ (s.setF v).variant = s.variant ∧ (s.setF v).elapsed = s.elapsed ∧
    (s.setF v).draws = s.draws := by repeat' constructor

/-- `setB` writes main alone. -/
@[simp] theorem State.setB_frame (s : State) (v : Byte) :
    (s.setB v).shadow = s.shadow ∧ (s.setB v).ix = s.ix ∧ (s.setB v).iy = s.iy ∧ (s.setB v).sp = s.sp ∧
    (s.setB v).pc = s.pc ∧ (s.setB v).i = s.i ∧ (s.setB v).r = s.r ∧ (s.setB v).iff1 = s.iff1 ∧ (s.setB v).iff2 = s.iff2 ∧
    (s.setB v).im = s.im ∧ (s.setB v).halted = s.halted ∧ (s.setB v).iCount = s.iCount ∧ (s.setB v).iPeriod = s.iPeriod ∧
    (s.setB v).iIntTime = s.iIntTime ∧ (s.setB v).idx = s.idx ∧ (s.setB v).intInhibit = s.intInhibit ∧
    (s.setB v).debugTrapAddr = s.debugTrapAddr ∧ (s.setB v).breakEnable = s.breakEnable ∧
    (s.setB v).decodeErrors = s.decodeErrors ∧ (s.setB v).iRequest = s.iRequest ∧ (s.setB v).mem = s.mem ∧
    (s.setB v).readOnly = s.readOnly ∧ (s.setB v).tapeActive = s.tapeActive ∧ (s.setB v).events = s.events ∧
    (s.setB v).portInput = s.portInput ∧ (s.setB v).variant = s.variant ∧ (s.setB v).elapsed = s.elapsed ∧
    (s.setB v).draws = s.draws := by repeat' constructor

/-- `setBC` writes main alone. -/
@[simp] theorem State.setBC_frame (s : State) (v : Word) :
    (s.setBC v).shadow = s.shadow ∧ (s.setBC v).ix = s.ix ∧ (s.setBC v).iy = s.iy ∧ (s.setBC v).sp = s.sp ∧
    (s.setBC v).pc = s.pc ∧ (s.setBC v).i = s.i ∧ (s.setBC v).r = s.r ∧ (s.setBC v).iff1 = s.iff1 ∧
    (s.setBC v).iff2 = s.iff2 ∧ (s.setBC v).im = s.im ∧ (s.setBC v).halted = s.halted ∧ (s.setBC v).iCount = s.iCount ∧
    (s.setBC v).iPeriod = s.iPeriod ∧ (s.setBC v).iIntTime = s.iIntTime ∧ (s.setBC v).idx = s.idx ∧
    (s.setBC v).intInhibit = s.intInhibit ∧ (s.setBC v).debugTrapAddr = s.debugTrapAddr ∧
    (s.setBC v).breakEnable = s.breakEnable ∧ (s.setBC v).decodeErrors = s.decodeErrors ∧
    (s.setBC v).iRequest = s.iRequest ∧ (s.setBC v).mem = s.mem ∧ (s.setBC v).readOnly = s.readOnly ∧
    (s.setBC v).tapeActive = s.tapeActive ∧ (s.setBC v).events = s.events ∧ (s.setBC v).portInput = s.portInput ∧
    (s.setBC v).variant = s.variant ∧ (s.setBC v).elapsed = s.elapsed ∧ (s.setBC v).draws = s.draws := by repeat' constructor

/-- `setDE` writes main alone. -/
@[simp] theorem State.setDE_frame (s : State) (v : Word) :
    (s.setDE v).shadow = s.shadow ∧ (s.setDE v).ix = s.ix ∧ (s.setDE v).iy = s.iy ∧ (s.setDE v).sp = s.sp ∧
    (s.setDE v).pc = s.pc ∧ (s.setDE v).i = s.i ∧ (s.setDE v).r = s.r ∧ (s.setDE v).iff1 = s.iff1 ∧
    (s.setDE v).iff2 = s.iff2 ∧ (s.setDE v).im = s.im ∧ (s.setDE v).halted = s.halted ∧ (s.setDE v).iCount = s.iCount ∧
    (s.setDE v).iPeriod = s.iPeriod ∧ (s.setDE v).iIntTime = s.iIntTime ∧ (s.setDE v).idx = s.idx ∧
    (s.setDE v).intInhibit = s.intInhibit ∧ (s.setDE v).debugTrapAddr = s.debugTrapAddr ∧
    (s.setDE v).breakEnable = s.breakEnable ∧ (s.setDE v).decodeErrors = s.decodeErrors ∧
    (s.setDE v).iRequest = s.iRequest ∧ (s.setDE v).mem = s.mem ∧ (s.setDE v).readOnly = s.readOnly ∧
    (s.setDE v).tapeActive = s.tapeActive ∧ (s.setDE v).events = s.events ∧ (s.setDE v).portInput = s.portInput ∧
    (s.setDE v).variant = s.variant ∧ (s.setDE v).elapsed = s.elapsed ∧ (s.setDE v).draws = s.draws := by repeat' constructor

/-- `setHL` writes main alone. -/
@[simp] theorem State.setHL_frame (s : State) (v : Word) :
    (s.setHL v).shadow = s.shadow ∧ (s.setHL v).ix = s.ix ∧ (s.setHL v).iy = s.iy ∧ (s.setHL v).sp = s.sp ∧
    (s.setHL v).pc = s.pc ∧ (s.setHL v).i = s.i ∧ (s.setHL v).r = s.r ∧ (s.setHL v).iff1 = s.iff1 ∧
    (s.setHL v).iff2 = s.iff2 ∧ (s.setHL v).im = s.im ∧ (s.setHL v).halted = s.halted ∧ (s.setHL v).iCount = s.iCount ∧
    (s.setHL v).iPeriod = s.iPeriod ∧ (s.setHL v).iIntTime = s.iIntTime ∧ (s.setHL v).idx = s.idx ∧
    (s.setHL v).intInhibit = s.intInhibit ∧ (s.setHL v).debugTrapAddr = s.debugTrapAddr ∧
    (s.setHL v).breakEnable = s.breakEnable ∧ (s.setHL v).decodeErrors = s.decodeErrors ∧
    (s.setHL v).iRequest = s.iRequest ∧ (s.setHL v).mem = s.mem ∧ (s.setHL v).readOnly = s.readOnly ∧
    (s.setHL v).tapeActive = s.tapeActive ∧ (s.setHL v).events = s.events ∧ (s.setHL v).portInput = s.portInput ∧
    (s.setHL v).variant = s.variant ∧ (s.setHL v).elapsed = s.elapsed ∧ (s.setHL v).draws = s.draws := by repeat' constructor

/-- `setAF` writes main alone. -/
@[simp] theorem State.setAF_frame (s : State) (v : Word) :
    (s.setAF v).shadow = s.shadow ∧ (s.setAF v).ix = s.ix ∧ (s.setAF v).iy = s.iy ∧ (s.setAF v).sp = s.sp ∧
    (s.setAF v).pc = s.pc ∧ (s.setAF v).i = s.i ∧ (s.setAF v).r = s.r ∧ (s.setAF v).iff1 = s.iff1 ∧
    (s.setAF v).iff2 = s.iff2 ∧ (s.setAF v).im = s.im ∧ (s.setAF v).halted = s.halted ∧ (s.setAF v).iCount = s.iCount ∧
    (s.setAF v).iPeriod = s.iPeriod ∧ (s.setAF v).iIntTime = s.iIntTime ∧ (s.setAF v).idx = s.idx ∧
    (s.setAF v).intInhibit = s.intInhibit ∧ (s.setAF v).debugTrapAddr = s.debugTrapAddr ∧
    (s.setAF v).breakEnable = s.breakEnable ∧ (s.setAF v).decodeErrors = s.decodeErrors ∧
    (s.setAF v).iRequest = s.iRequest ∧ (s.setAF v).mem = s.mem ∧ (s.setAF v).readOnly = s.readOnly ∧
    (s.setAF v).tapeActive = s.tapeActive ∧ (s.setAF v).events = s.events ∧ (s.setAF v).portInput = s.portInput ∧
    (s.setAF v).variant = s.variant ∧ (s.setAF v).elapsed = s.elapsed ∧ (s.setAF v).draws = s.draws := by repeat' constructor

/-- `setReg` writes main alone. -/
@[simp] theorem State.setReg_frame (s : State) (r : Reg8) (v : Byte) :
    (s.setReg r v).shadow = s.shadow ∧ (s.setReg r v).ix = s.ix ∧ (s.setReg r v).iy = s.iy ∧ (s.setReg r v).sp = s.sp ∧
    (s.setReg r v).pc = s.pc ∧ (s.setReg r v).i = s.i ∧ (s.setReg r v).r = s.r ∧ (s.setReg r v).iff1 = s.iff1 ∧
    (s.setReg r v).iff2 = s.iff2 ∧ (s.setReg r v).im = s.im ∧ (s.setReg r v).halted = s.halted ∧
    (s.setReg r v).iCount = s.iCount ∧ (s.setReg r v).iPeriod = s.iPeriod ∧ (s.setReg r v).iIntTime = s.iIntTime ∧
    (s.setReg r v).idx = s.idx ∧ (s.setReg r v).intInhibit = s.intInhibit ∧
    (s.setReg r v).debugTrapAddr = s.debugTrapAddr ∧ (s.setReg r v).breakEnable = s.breakEnable ∧
    (s.setReg r v).decodeErrors = s.decodeErrors ∧ (s.setReg r v).iRequest = s.iRequest ∧ (s.setReg r v).mem = s.mem ∧
    (s.setReg r v).readOnly = s.readOnly ∧ (s.setReg r v).tapeActive = s.tapeActive ∧ (s.setReg r v).events = s.events ∧
    (s.setReg r v).portInput = s.portInput ∧ (s.setReg r v).variant = s.variant ∧ (s.setReg r v).elapsed = s.elapsed ∧
    (s.setReg r v).draws = s.draws := by repeat' constructor

/-- `setStackPair` writes main alone. -/
@[simp] theorem State.setStackPair_frame (s : State) (p : StackPair) (v : Word) :
    (s.setStackPair p v).shadow = s.shadow ∧ (s.setStackPair p v).ix = s.ix ∧ (s.setStackPair p v).iy = s.iy ∧
    (s.setStackPair p v).sp = s.sp ∧ (s.setStackPair p v).pc = s.pc ∧ (s.setStackPair p v).i = s.i ∧
    (s.setStackPair p v).r = s.r ∧ (s.setStackPair p v).iff1 = s.iff1 ∧ (s.setStackPair p v).iff2 = s.iff2 ∧
    (s.setStackPair p v).im = s.im ∧ (s.setStackPair p v).halted = s.halted ∧ (s.setStackPair p v).iCount = s.iCount ∧
    (s.setStackPair p v).iPeriod = s.iPeriod ∧ (s.setStackPair p v).iIntTime = s.iIntTime ∧
    (s.setStackPair p v).idx = s.idx ∧ (s.setStackPair p v).intInhibit = s.intInhibit ∧
    (s.setStackPair p v).debugTrapAddr = s.debugTrapAddr ∧ (s.setStackPair p v).breakEnable = s.breakEnable ∧
    (s.setStackPair p v).decodeErrors = s.decodeErrors ∧ (s.setStackPair p v).iRequest = s.iRequest ∧
    (s.setStackPair p v).mem = s.mem ∧ (s.setStackPair p v).readOnly = s.readOnly ∧
    (s.setStackPair p v).tapeActive = s.tapeActive ∧ (s.setStackPair p v).events = s.events ∧
    (s.setStackPair p v).portInput = s.portInput ∧ (s.setStackPair p v).variant = s.variant ∧
    (s.setStackPair p v).elapsed = s.elapsed ∧ (s.setStackPair p v).draws = s.draws := by cases p <;> (repeat' constructor)

/-- `setHlx` writes main, ix, iy alone. -/
@[simp] theorem State.setHlx_frame (s : State) (v : Word) :
    (s.setHlx v).shadow = s.shadow ∧ (s.setHlx v).sp = s.sp ∧ (s.setHlx v).pc = s.pc ∧ (s.setHlx v).i = s.i ∧
    (s.setHlx v).r = s.r ∧ (s.setHlx v).iff1 = s.iff1 ∧ (s.setHlx v).iff2 = s.iff2 ∧ (s.setHlx v).im = s.im ∧
    (s.setHlx v).halted = s.halted ∧ (s.setHlx v).iCount = s.iCount ∧ (s.setHlx v).iPeriod = s.iPeriod ∧
    (s.setHlx v).iIntTime = s.iIntTime ∧ (s.setHlx v).idx = s.idx ∧ (s.setHlx v).intInhibit = s.intInhibit ∧
    (s.setHlx v).debugTrapAddr = s.debugTrapAddr ∧ (s.setHlx v).breakEnable = s.breakEnable ∧
    (s.setHlx v).decodeErrors = s.decodeErrors ∧ (s.setHlx v).iRequest = s.iRequest ∧ (s.setHlx v).mem = s.mem ∧
    (s.setHlx v).readOnly = s.readOnly ∧ (s.setHlx v).tapeActive = s.tapeActive ∧ (s.setHlx v).events = s.events ∧
    (s.setHlx v).portInput = s.portInput ∧ (s.setHlx v).variant = s.variant ∧ (s.setHlx v).elapsed = s.elapsed ∧
    (s.setHlx v).draws = s.draws := by
  unfold State.setHlx
  split <;> (repeat' constructor)

/-- `setHalf` writes main, ix, iy alone. -/
@[simp] theorem State.setHalf_frame (s : State) (h : Half) (v : Byte) :
    (s.setHalf h v).shadow = s.shadow ∧ (s.setHalf h v).sp = s.sp ∧ (s.setHalf h v).pc = s.pc ∧ (s.setHalf h v).i = s.i ∧
    (s.setHalf h v).r = s.r ∧ (s.setHalf h v).iff1 = s.iff1 ∧ (s.setHalf h v).iff2 = s.iff2 ∧ (s.setHalf h v).im = s.im ∧
    (s.setHalf h v).halted = s.halted ∧ (s.setHalf h v).iCount = s.iCount ∧ (s.setHalf h v).iPeriod = s.iPeriod ∧
    (s.setHalf h v).iIntTime = s.iIntTime ∧ (s.setHalf h v).idx = s.idx ∧ (s.setHalf h v).intInhibit = s.intInhibit ∧
    (s.setHalf h v).debugTrapAddr = s.debugTrapAddr ∧ (s.setHalf h v).breakEnable = s.breakEnable ∧
    (s.setHalf h v).decodeErrors = s.decodeErrors ∧ (s.setHalf h v).iRequest = s.iRequest ∧ (s.setHalf h v).mem = s.mem ∧
    (s.setHalf h v).readOnly = s.readOnly ∧ (s.setHalf h v).tapeActive = s.tapeActive ∧ (s.setHalf h v).events = s.events ∧
    (s.setHalf h v).portInput = s.portInput ∧ (s.setHalf h v).variant = s.variant ∧ (s.setHalf h v).elapsed = s.elapsed ∧
    (s.setHalf h v).draws = s.draws := by
  cases h <;> simp [State.setHalf]

/-- `setPair` writes main, ix, iy, sp alone. -/
@[simp] theorem State.setPair_frame (s : State) (p : Pair) (v : Word) :
    (s.setPair p v).shadow = s.shadow ∧ (s.setPair p v).pc = s.pc ∧ (s.setPair p v).i = s.i ∧ (s.setPair p v).r = s.r ∧
    (s.setPair p v).iff1 = s.iff1 ∧ (s.setPair p v).iff2 = s.iff2 ∧ (s.setPair p v).im = s.im ∧
    (s.setPair p v).halted = s.halted ∧ (s.setPair p v).iCount = s.iCount ∧ (s.setPair p v).iPeriod = s.iPeriod ∧
    (s.setPair p v).iIntTime = s.iIntTime ∧ (s.setPair p v).idx = s.idx ∧ (s.setPair p v).intInhibit = s.intInhibit ∧
    (s.setPair p v).debugTrapAddr = s.debugTrapAddr ∧ (s.setPair p v).breakEnable = s.breakEnable ∧
    (s.setPair p v).decodeErrors = s.decodeErrors ∧ (s.setPair p v).iRequest = s.iRequest ∧ (s.setPair p v).mem = s.mem ∧
    (s.setPair p v).readOnly = s.readOnly ∧ (s.setPair p v).tapeActive = s.tapeActive ∧ (s.setPair p v).events = s.events ∧
    (s.setPair p v).portInput = s.portInput ∧ (s.setPair p v).variant = s.variant ∧ (s.setPair p v).elapsed = s.elapsed ∧
    (s.setPair p v).draws = s.draws := by
  cases p <;> simp [State.setPair]

/-- `writeByte` writes mem alone. -/
@[simp] theorem State.writeByte_frame (s : State) (a : Word) (v : Byte) :
    (s.writeByte a v).main = s.main ∧ (s.writeByte a v).shadow = s.shadow ∧ (s.writeByte a v).ix = s.ix ∧
    (s.writeByte a v).iy = s.iy ∧ (s.writeByte a v).sp = s.sp ∧ (s.writeByte a v).pc = s.pc ∧ (s.writeByte a v).i = s.i ∧
    (s.writeByte a v).r = s.r ∧ (s.writeByte a v).iff1 = s.iff1 ∧ (s.writeByte a v).iff2 = s.iff2 ∧
    (s.writeByte a v).im = s.im ∧ (s.writeByte a v).halted = s.halted ∧ (s.writeByte a v).iCount = s.iCount ∧
    (s.writeByte a v).iPeriod = s.iPeriod ∧ (s.writeByte a v).iIntTime = s.iIntTime ∧ (s.writeByte a v).idx = s.idx ∧
    (s.writeByte a v).intInhibit = s.intInhibit ∧ (s.writeByte a v).debugTrapAddr = s.debugTrapAddr ∧
    (s.writeByte a v).breakEnable = s.breakEnable ∧ (s.writeByte a v).decodeErrors = s.decodeErrors ∧
    (s.writeByte a v).iRequest = s.iRequest ∧ (s.writeByte a v).readOnly = s.readOnly ∧
    (s.writeByte a v).tapeActive = s.tapeActive ∧ (s.writeByte a v).events = s.events ∧
    (s.writeByte a v).portInput = s.portInput ∧ (s.writeByte a v).variant = s.variant ∧
    (s.writeByte a v).elapsed = s.elapsed ∧ (s.writeByte a v).draws = s.draws := by repeat' constructor

/-- `writeWord` writes mem alone. -/
@[simp] theorem State.writeWord_frame (s : State) (a v : Word) :
    (s.writeWord a v).main = s.main ∧ (s.writeWord a v).shadow = s.shadow ∧ (s.writeWord a v).ix = s.ix ∧
    (s.writeWord a v).iy = s.iy ∧ (s.writeWord a v).sp = s.sp ∧ (s.writeWord a v).pc = s.pc ∧ (s.writeWord a v).i = s.i ∧
    (s.writeWord a v).r = s.r ∧ (s.writeWord a v).iff1 = s.iff1 ∧ (s.writeWord a v).iff2 = s.iff2 ∧
    (s.writeWord a v).im = s.im ∧ (s.writeWord a v).halted = s.halted ∧ (s.writeWord a v).iCount = s.iCount ∧
    (s.writeWord a v).iPeriod = s.iPeriod ∧ (s.writeWord a v).iIntTime = s.iIntTime ∧ (s.writeWord a v).idx = s.idx ∧
    (s.writeWord a v).intInhibit = s.intInhibit ∧ (s.writeWord a v).debugTrapAddr = s.debugTrapAddr ∧
    (s.writeWord a v).breakEnable = s.breakEnable ∧ (s.writeWord a v).decodeErrors = s.decodeErrors ∧
    (s.writeWord a v).iRequest = s.iRequest ∧ (s.writeWord a v).readOnly = s.readOnly ∧
    (s.writeWord a v).tapeActive = s.tapeActive ∧ (s.writeWord a v).events = s.events ∧
    (s.writeWord a v).portInput = s.portInput ∧ (s.writeWord a v).variant = s.variant ∧
    (s.writeWord a v).elapsed = s.elapsed ∧ (s.writeWord a v).draws = s.draws := by
  simp [State.writeWord]

/-- `push16` writes sp, mem alone. -/
@[simp] theorem State.push16_frame (s : State) (v : Word) :
    (s.push16 v).main = s.main ∧ (s.push16 v).shadow = s.shadow ∧ (s.push16 v).ix = s.ix ∧ (s.push16 v).iy = s.iy ∧
    (s.push16 v).pc = s.pc ∧ (s.push16 v).i = s.i ∧ (s.push16 v).r = s.r ∧ (s.push16 v).iff1 = s.iff1 ∧
    (s.push16 v).iff2 = s.iff2 ∧ (s.push16 v).im = s.im ∧ (s.push16 v).halted = s.halted ∧ (s.push16 v).iCount = s.iCount ∧
    (s.push16 v).iPeriod = s.iPeriod ∧ (s.push16 v).iIntTime = s.iIntTime ∧ (s.push16 v).idx = s.idx ∧
    (s.push16 v).intInhibit = s.intInhibit ∧ (s.push16 v).debugTrapAddr = s.debugTrapAddr ∧
    (s.push16 v).breakEnable = s.breakEnable ∧ (s.push16 v).decodeErrors = s.decodeErrors ∧
    (s.push16 v).iRequest = s.iRequest ∧ (s.push16 v).readOnly = s.readOnly ∧ (s.push16 v).tapeActive = s.tapeActive ∧
    (s.push16 v).events = s.events ∧ (s.push16 v).portInput = s.portInput ∧ (s.push16 v).variant = s.variant ∧
    (s.push16 v).elapsed = s.elapsed ∧ (s.push16 v).draws = s.draws := by
  simp [State.push16]

/-- `drawIntoF` writes main, draws alone. -/
@[simp] theorem State.drawIntoF_frame (s : State) (v : Byte) :
    (s.drawIntoF v).shadow = s.shadow ∧ (s.drawIntoF v).ix = s.ix ∧ (s.drawIntoF v).iy = s.iy ∧ (s.drawIntoF v).sp = s.sp ∧
    (s.drawIntoF v).pc = s.pc ∧ (s.drawIntoF v).i = s.i ∧ (s.drawIntoF v).r = s.r ∧ (s.drawIntoF v).iff1 = s.iff1 ∧
    (s.drawIntoF v).iff2 = s.iff2 ∧ (s.drawIntoF v).im = s.im ∧ (s.drawIntoF v).halted = s.halted ∧
    (s.drawIntoF v).iCount = s.iCount ∧ (s.drawIntoF v).iPeriod = s.iPeriod ∧ (s.drawIntoF v).iIntTime = s.iIntTime ∧
    (s.drawIntoF v).idx = s.idx ∧ (s.drawIntoF v).intInhibit = s.intInhibit ∧
    (s.drawIntoF v).debugTrapAddr = s.debugTrapAddr ∧ (s.drawIntoF v).breakEnable = s.breakEnable ∧
    (s.drawIntoF v).decodeErrors = s.decodeErrors ∧ (s.drawIntoF v).iRequest = s.iRequest ∧ (s.drawIntoF v).mem = s.mem ∧
    (s.drawIntoF v).readOnly = s.readOnly ∧ (s.drawIntoF v).tapeActive = s.tapeActive ∧ (s.drawIntoF v).events = s.events ∧
    (s.drawIntoF v).portInput = s.portInput ∧ (s.drawIntoF v).variant = s.variant ∧ (s.drawIntoF v).elapsed = s.elapsed := by repeat' constructor

/-- `ioRead` writes events, portInput, draws alone. -/
@[simp] theorem State.ioRead_frame (s : State) (p : Word) :
    ((s.ioRead p).2).main = s.main ∧ ((s.ioRead p).2).shadow = s.shadow ∧ ((s.ioRead p).2).ix = s.ix ∧
    ((s.ioRead p).2).iy = s.iy ∧ ((s.ioRead p).2).sp = s.sp ∧ ((s.ioRead p).2).pc = s.pc ∧ ((s.ioRead p).2).i = s.i ∧
    ((s.ioRead p).2).r = s.r ∧ ((s.ioRead p).2).iff1 = s.iff1 ∧ ((s.ioRead p).2).iff2 = s.iff2 ∧
    ((s.ioRead p).2).im = s.im ∧ ((s.ioRead p).2).halted = s.halted ∧ ((s.ioRead p).2).iCount = s.iCount ∧
    ((s.ioRead p).2).iPeriod = s.iPeriod ∧ ((s.ioRead p).2).iIntTime = s.iIntTime ∧ ((s.ioRead p).2).idx = s.idx ∧
    ((s.ioRead p).2).intInhibit = s.intInhibit ∧ ((s.ioRead p).2).debugTrapAddr = s.debugTrapAddr ∧
    ((s.ioRead p).2).breakEnable = s.breakEnable ∧ ((s.ioRead p).2).decodeErrors = s.decodeErrors ∧
    ((s.ioRead p).2).iRequest = s.iRequest ∧ ((s.ioRead p).2).mem = s.mem ∧ ((s.ioRead p).2).readOnly = s.readOnly ∧
    ((s.ioRead p).2).tapeActive = s.tapeActive ∧ ((s.ioRead p).2).variant = s.variant ∧ ((s.ioRead p).2).elapsed = s.elapsed := by
  unfold State.ioRead
  split <;> (repeat' constructor)

/-- `ioWrite` writes events alone. -/
@[simp] theorem State.ioWrite_frame (s : State) (p : Word) (v : Byte) :
    (s.ioWrite p v).main = s.main ∧ (s.ioWrite p v).shadow = s.shadow ∧ (s.ioWrite p v).ix = s.ix ∧
    (s.ioWrite p v).iy = s.iy ∧ (s.ioWrite p v).sp = s.sp ∧ (s.ioWrite p v).pc = s.pc ∧ (s.ioWrite p v).i = s.i ∧
    (s.ioWrite p v).r = s.r ∧ (s.ioWrite p v).iff1 = s.iff1 ∧ (s.ioWrite p v).iff2 = s.iff2 ∧ (s.ioWrite p v).im = s.im ∧
    (s.ioWrite p v).halted = s.halted ∧ (s.ioWrite p v).iCount = s.iCount ∧ (s.ioWrite p v).iPeriod = s.iPeriod ∧
    (s.ioWrite p v).iIntTime = s.iIntTime ∧ (s.ioWrite p v).idx = s.idx ∧ (s.ioWrite p v).intInhibit = s.intInhibit ∧
    (s.ioWrite p v).debugTrapAddr = s.debugTrapAddr ∧ (s.ioWrite p v).breakEnable = s.breakEnable ∧
    (s.ioWrite p v).decodeErrors = s.decodeErrors ∧ (s.ioWrite p v).iRequest = s.iRequest ∧ (s.ioWrite p v).mem = s.mem ∧
    (s.ioWrite p v).readOnly = s.readOnly ∧ (s.ioWrite p v).tapeActive = s.tapeActive ∧
    (s.ioWrite p v).portInput = s.portInput ∧ (s.ioWrite p v).variant = s.variant ∧ (s.ioWrite p v).elapsed = s.elapsed ∧
    (s.ioWrite p v).draws = s.draws := by repeat' constructor

/-- `fetched` writes pc, r, idx alone. -/
@[simp] theorem State.fetched_frame (s : State) (len rinc : Nat) :
    (s.fetched len rinc).main = s.main ∧ (s.fetched len rinc).shadow = s.shadow ∧ (s.fetched len rinc).ix = s.ix ∧
    (s.fetched len rinc).iy = s.iy ∧ (s.fetched len rinc).sp = s.sp ∧ (s.fetched len rinc).i = s.i ∧
    (s.fetched len rinc).iff1 = s.iff1 ∧ (s.fetched len rinc).iff2 = s.iff2 ∧ (s.fetched len rinc).im = s.im ∧
    (s.fetched len rinc).halted = s.halted ∧ (s.fetched len rinc).iCount = s.iCount ∧
    (s.fetched len rinc).iPeriod = s.iPeriod ∧ (s.fetched len rinc).iIntTime = s.iIntTime ∧
    (s.fetched len rinc).intInhibit = s.intInhibit ∧ (s.fetched len rinc).debugTrapAddr = s.debugTrapAddr ∧
    (s.fetched len rinc).breakEnable = s.breakEnable ∧ (s.fetched len rinc).decodeErrors = s.decodeErrors ∧
    (s.fetched len rinc).iRequest = s.iRequest ∧ (s.fetched len rinc).mem = s.mem ∧
    (s.fetched len rinc).readOnly = s.readOnly ∧ (s.fetched len rinc).tapeActive = s.tapeActive ∧
    (s.fetched len rinc).events = s.events ∧ (s.fetched len rinc).portInput = s.portInput ∧
    (s.fetched len rinc).variant = s.variant ∧ (s.fetched len rinc).elapsed = s.elapsed ∧
    (s.fetched len rinc).draws = s.draws := by repeat' constructor

/-- `select` writes idx alone. -/
@[simp] theorem State.select_frame (s : State) (x : IndexSel) :
    (s.select x).main = s.main ∧ (s.select x).shadow = s.shadow ∧ (s.select x).ix = s.ix ∧ (s.select x).iy = s.iy ∧
    (s.select x).sp = s.sp ∧ (s.select x).pc = s.pc ∧ (s.select x).i = s.i ∧ (s.select x).r = s.r ∧
    (s.select x).iff1 = s.iff1 ∧ (s.select x).iff2 = s.iff2 ∧ (s.select x).im = s.im ∧ (s.select x).halted = s.halted ∧
    (s.select x).iCount = s.iCount ∧ (s.select x).iPeriod = s.iPeriod ∧ (s.select x).iIntTime = s.iIntTime ∧
    (s.select x).intInhibit = s.intInhibit ∧ (s.select x).debugTrapAddr = s.debugTrapAddr ∧
    (s.select x).breakEnable = s.breakEnable ∧ (s.select x).decodeErrors = s.decodeErrors ∧
    (s.select x).iRequest = s.iRequest ∧ (s.select x).mem = s.mem ∧ (s.select x).readOnly = s.readOnly ∧
    (s.select x).tapeActive = s.tapeActive ∧ (s.select x).events = s.events ∧ (s.select x).portInput = s.portInput ∧
    (s.select x).variant = s.variant ∧ (s.select x).elapsed = s.elapsed ∧ (s.select x).draws = s.draws := by repeat' constructor

/-- `charge` writes iCount, elapsed alone. -/
@[simp] theorem State.charge_frame (s : State) (n : Nat) :
    (s.charge n).main = s.main ∧ (s.charge n).shadow = s.shadow ∧ (s.charge n).ix = s.ix ∧ (s.charge n).iy = s.iy ∧
    (s.charge n).sp = s.sp ∧ (s.charge n).pc = s.pc ∧ (s.charge n).i = s.i ∧ (s.charge n).r = s.r ∧
    (s.charge n).iff1 = s.iff1 ∧ (s.charge n).iff2 = s.iff2 ∧ (s.charge n).im = s.im ∧ (s.charge n).halted = s.halted ∧
    (s.charge n).iPeriod = s.iPeriod ∧ (s.charge n).iIntTime = s.iIntTime ∧ (s.charge n).idx = s.idx ∧
    (s.charge n).intInhibit = s.intInhibit ∧ (s.charge n).debugTrapAddr = s.debugTrapAddr ∧
    (s.charge n).breakEnable = s.breakEnable ∧ (s.charge n).decodeErrors = s.decodeErrors ∧
    (s.charge n).iRequest = s.iRequest ∧ (s.charge n).mem = s.mem ∧ (s.charge n).readOnly = s.readOnly ∧
    (s.charge n).tapeActive = s.tapeActive ∧ (s.charge n).events = s.events ∧ (s.charge n).portInput = s.portInput ∧
    (s.charge n).variant = s.variant ∧ (s.charge n).draws = s.draws := by repeat' constructor

/-- `retire` writes iCount, elapsed, intInhibit, idx alone. -/
@[simp] theorem State.retire_frame (s : State) (cost : Nat) (x : Bool) :
    (s.retire cost x).main = s.main ∧ (s.retire cost x).shadow = s.shadow ∧ (s.retire cost x).ix = s.ix ∧
    (s.retire cost x).iy = s.iy ∧ (s.retire cost x).sp = s.sp ∧ (s.retire cost x).pc = s.pc ∧ (s.retire cost x).i = s.i ∧
    (s.retire cost x).r = s.r ∧ (s.retire cost x).iff1 = s.iff1 ∧ (s.retire cost x).iff2 = s.iff2 ∧
    (s.retire cost x).im = s.im ∧ (s.retire cost x).halted = s.halted ∧ (s.retire cost x).iPeriod = s.iPeriod ∧
    (s.retire cost x).iIntTime = s.iIntTime ∧ (s.retire cost x).debugTrapAddr = s.debugTrapAddr ∧
    (s.retire cost x).breakEnable = s.breakEnable ∧ (s.retire cost x).decodeErrors = s.decodeErrors ∧
    (s.retire cost x).iRequest = s.iRequest ∧ (s.retire cost x).mem = s.mem ∧ (s.retire cost x).readOnly = s.readOnly ∧
    (s.retire cost x).tapeActive = s.tapeActive ∧ (s.retire cost x).events = s.events ∧
    (s.retire cost x).portInput = s.portInput ∧ (s.retire cost x).variant = s.variant ∧ (s.retire cost x).draws = s.draws := by repeat' constructor

/-- `haltRewind` writes pc alone. -/
@[simp] theorem State.haltRewind_frame (s : State) :
    (s.haltRewind).main = s.main ∧ (s.haltRewind).shadow = s.shadow ∧ (s.haltRewind).ix = s.ix ∧ (s.haltRewind).iy = s.iy ∧
    (s.haltRewind).sp = s.sp ∧ (s.haltRewind).i = s.i ∧ (s.haltRewind).r = s.r ∧ (s.haltRewind).iff1 = s.iff1 ∧
    (s.haltRewind).iff2 = s.iff2 ∧ (s.haltRewind).im = s.im ∧ (s.haltRewind).halted = s.halted ∧
    (s.haltRewind).iCount = s.iCount ∧ (s.haltRewind).iPeriod = s.iPeriod ∧ (s.haltRewind).iIntTime = s.iIntTime ∧
    (s.haltRewind).idx = s.idx ∧ (s.haltRewind).intInhibit = s.intInhibit ∧
    (s.haltRewind).debugTrapAddr = s.debugTrapAddr ∧ (s.haltRewind).breakEnable = s.breakEnable ∧
    (s.haltRewind).decodeErrors = s.decodeErrors ∧ (s.haltRewind).iRequest = s.iRequest ∧ (s.haltRewind).mem = s.mem ∧
    (s.haltRewind).readOnly = s.readOnly ∧ (s.haltRewind).tapeActive = s.tapeActive ∧ (s.haltRewind).events = s.events ∧
    (s.haltRewind).portInput = s.portInput ∧ (s.haltRewind).variant = s.variant ∧ (s.haltRewind).elapsed = s.elapsed ∧
    (s.haltRewind).draws = s.draws := by
  unfold State.haltRewind
  split <;> (repeat' constructor)

/-! ### What an update writes -/

@[simp] theorem State.fetched_idx (s : State) (len rinc : Nat) : (s.fetched len rinc).idx = .none := rfl

@[simp] theorem State.select_idx (s : State) (x : IndexSel) : (s.select x).idx = x := rfl

@[simp] theorem State.retire_idx (s : State) (cost : Nat) (x : Bool) : (s.retire cost x).idx = .none := rfl

@[simp] theorem State.retire_intInhibit (s : State) (cost : Nat) (x : Bool) : (s.retire cost x).intInhibit = x := rfl

@[simp] theorem State.retire_elapsed (s : State) (cost : Nat) (x : Bool) : (s.retire cost x).elapsed = s.elapsed + cost := rfl

@[simp] theorem State.retire_iCount (s : State) (cost : Nat) (x : Bool) : (s.retire cost x).iCount = s.iCount - BitVec.ofNat 32 cost := rfl

@[simp] theorem State.charge_elapsed (s : State) (n : Nat) : (s.charge n).elapsed = s.elapsed + n := rfl

@[simp] theorem State.charge_iCount (s : State) (n : Nat) : (s.charge n).iCount = s.iCount - BitVec.ofNat 32 n := rfl

@[simp] theorem State.fetched_pc (s : State) (len rinc : Nat) : (s.fetched len rinc).pc = s.pc + BitVec.ofNat 16 len := rfl

@[simp] theorem State.fetched_r (s : State) (len rinc : Nat) : (s.fetched len rinc).r = bumpRTimes rinc s.r := rfl

@[simp] theorem State.push16_sp (s : State) (v : Word) : (s.push16 v).sp = s.sp - 2 := by
  simp [State.push16]
  bv_omega

theorem State.reg_setReg (s : State) (r q : Reg8) (v : Byte) : (s.setReg r v).reg q = if q = r then v else s.reg q := by
  cases r <;> cases q <;> rfl

@[simp] theorem State.setReg_f (s : State) (r : Reg8) (v : Byte) : (s.setReg r v).main.f = s.main.f := by cases r <;> rfl

@[simp] theorem Word.hi_mk (h l : Byte) : (Word.mk h l).hi = h := by
  apply BitVec.eq_of_getLsbD_eq
  intro i hi
  simp only [Word.mk, Word.hi, BitVec.getLsbD_extractLsb', BitVec.getLsbD_append]
  simp [hi]

@[simp] theorem Word.lo_mk (h l : Byte) : (Word.mk h l).lo = l := by
  apply BitVec.eq_of_getLsbD_eq
  intro i hi
  simp only [Word.mk, Word.lo, BitVec.getLsbD_extractLsb', BitVec.getLsbD_append]
  simp [hi]

@[simp] theorem Word.mk_hi_lo (v : Word) : Word.mk v.hi v.lo = v := by
  apply BitVec.eq_of_getLsbD_eq
  intro i hi
  simp only [Word.mk, Word.hi, Word.lo, BitVec.getLsbD_append, BitVec.getLsbD_extractLsb']
  by_cases h : i < 8
  · simp [h]
  · simp [h, show i - 8 < 8 by omega, show 8 + (i - 8) = i by omega]

end Sys2Proof.Machine
end

