-- ==== Sys2Proof/Laws/Ops.lean ====
section
/-! SUPPORT. One lemma per shared operation, saying what it does in the terms of Safety.lean. -/

namespace Sys2Proof.Machine

/-! ### R -/

theorem bumpR_eq (r : Byte) : bumpR r = refreshed r 1 := by
  revert r
  decide

theorem refreshed_succ (r : Byte) (n : Nat) : refreshed (refreshed r 1) n = refreshed r (n + 1) := by
  apply BitVec.eq_of_toNat_eq
  simp only [refreshed, BitVec.toNat_ofNat]
  omega

/-- `n` increments of R. -/
theorem bumpRTimes_eq (n : Nat) (r : Byte) : bumpRTimes n r = refreshed r n := by
  induction n generalizing r with
  | zero =>
    apply BitVec.eq_of_toNat_eq
    simp only [bumpRTimes, refreshed, BitVec.toNat_ofNat]
    omega
  | succ n ih => rw [bumpRTimes, ih, bumpR_eq, refreshed_succ]

/-- R's bit 7 is kept by every increment. -/
theorem refreshed_bit7 (r : Byte) (n : Nat) : (refreshed r n).getLsbD 7 = r.getLsbD 7 := by
  have e : (refreshed r n).toNat / 128 = r.toNat / 128 := by
    simp only [refreshed, BitVec.toNat_ofNat]
    omega
  simp only [BitVec.getLsbD, Nat.testBit_eq_decide_div_mod_eq]
  norm_num
  rw [e]

/-! ### The frame of an instruction -/

/-- A fetch and an end with nothing between. -/
@[simp] theorem retire_fetched (s : State) (len rinc cost : Nat) : (s.fetched len rinc).retire cost = s.after len rinc cost := by
  simp only [State.retire, State.charge, State.fetched, State.after, bumpRTimes_eq]

/-! What the operand forms read after the fetch, and after a DD or FD has selected IX or IY: what they read before. -/

@[simp] theorem State.fetched_pairs (s : State) (len rinc : Nat) :
    (s.fetched len rinc).bc = s.bc ∧ (s.fetched len rinc).de = s.de ∧ (s.fetched len rinc).hl = s.hl ∧ (s.fetched len rinc).af = s.af ∧ (s.fetched len rinc).carry = s.carry :=
  ⟨rfl, rfl, rfl, rfl, rfl⟩

@[simp] theorem State.fetched_readByte (s : State) (len rinc : Nat) (a : Word) : (s.fetched len rinc).readByte a = s.readByte a := rfl

@[simp] theorem State.fetched_readWord (s : State) (len rinc : Nat) (a : Word) : (s.fetched len rinc).readWord a = s.readWord a := rfl

@[simp] theorem State.fetched_reg (s : State) (len rinc : Nat) (r : Reg8) : (s.fetched len rinc).reg r = s.reg r := rfl

@[simp] theorem State.fetched_stackPair (s : State) (len rinc : Nat) (p : StackPair) : (s.fetched len rinc).stackPair p = s.stackPair p := by
  cases p <;> rfl

@[simp] theorem State.fetched_cond (s : State) (len rinc : Nat) (cc : Cond) : (s.fetched len rinc).cond cc = s.cond cc := by cases cc <;> rfl

@[simp] theorem State.fetched_hlx (s : State) (len rinc : Nat) : (s.fetched len rinc).hlx = s.hl := rfl

@[simp] theorem State.select_pairs (s : State) (x : IndexSel) :
    (s.select x).bc = s.bc ∧ (s.select x).de = s.de ∧ (s.select x).hl = s.hl ∧ (s.select x).af = s.af ∧ (s.select x).carry = s.carry :=
  ⟨rfl, rfl, rfl, rfl, rfl⟩

@[simp] theorem State.select_readByte (s : State) (x : IndexSel) (a : Word) : (s.select x).readByte a = s.readByte a := rfl

@[simp] theorem State.select_readWord (s : State) (x : IndexSel) (a : Word) : (s.select x).readWord a = s.readWord a := rfl

@[simp] theorem State.select_reg (s : State) (x : IndexSel) (r : Reg8) : (s.select x).reg r = s.reg r := rfl

@[simp] theorem State.select_stackPair (s : State) (x : IndexSel) (p : StackPair) : (s.select x).stackPair p = s.stackPair p := by
  cases p <;> rfl

@[simp] theorem State.select_cond (s : State) (x : IndexSel) (cc : Cond) : (s.select x).cond cc = s.cond cc := by cases cc <;> rfl

@[simp] theorem State.select_hlx (s : State) :
    (s.select .none).hlx = s.hl ∧ (s.select .ix).hlx = s.ix ∧ (s.select .iy).hlx = s.iy := ⟨rfl, rfl, rfl⟩

/-- The end of an instruction commutes with every write of a register. -/
@[simp] theorem State.retire_setReg (s : State) (cost : Nat) (x : Bool) (r : Reg8) (v : Byte) :
    (s.setReg r v).retire cost x = (s.retire cost x).setReg r v := rfl

@[simp] theorem State.retire_setA (s : State) (cost : Nat) (x : Bool) (v : Byte) :
    (s.setA v).retire cost x = (s.retire cost x).setA v := rfl

@[simp] theorem State.retire_setF (s : State) (cost : Nat) (x : Bool) (v : Byte) :
    (s.setF v).retire cost x = (s.retire cost x).setF v := rfl

@[simp] theorem State.retire_setB (s : State) (cost : Nat) (x : Bool) (v : Byte) :
    (s.setB v).retire cost x = (s.retire cost x).setB v := rfl

@[simp] theorem State.retire_setBC (s : State) (cost : Nat) (x : Bool) (v : Word) :
    (s.setBC v).retire cost x = (s.retire cost x).setBC v := rfl

@[simp] theorem State.retire_setDE (s : State) (cost : Nat) (x : Bool) (v : Word) :
    (s.setDE v).retire cost x = (s.retire cost x).setDE v := rfl

@[simp] theorem State.retire_setHL (s : State) (cost : Nat) (x : Bool) (v : Word) :
    (s.setHL v).retire cost x = (s.retire cost x).setHL v := rfl

@[simp] theorem State.retire_setAF (s : State) (cost : Nat) (x : Bool) (v : Word) :
    (s.setAF v).retire cost x = (s.retire cost x).setAF v := rfl

@[simp] theorem State.retire_setStackPair (s : State) (cost : Nat) (x : Bool) (p : StackPair) (v : Word) :
    (s.setStackPair p v).retire cost x = (s.retire cost x).setStackPair p v := by cases p <;> rfl

/-- The end of an instruction commutes with every store, port access and draw. -/
@[simp] theorem State.retire_writeByte (s : State) (cost : Nat) (x : Bool) (a : Word) (v : Byte) :
    (s.writeByte a v).retire cost x = (s.retire cost x).writeByte a v := rfl

@[simp] theorem State.retire_writeWord (s : State) (cost : Nat) (x : Bool) (a v : Word) :
    (s.writeWord a v).retire cost x = (s.retire cost x).writeWord a v := rfl

@[simp] theorem State.retire_push16 (s : State) (cost : Nat) (x : Bool) (v : Word) :
    (s.push16 v).retire cost x = (s.retire cost x).push16 v := rfl

@[simp] theorem State.retire_ioWrite (s : State) (cost : Nat) (x : Bool) (p : Word) (v : Byte) :
    (s.ioWrite p v).retire cost x = (s.retire cost x).ioWrite p v := rfl

@[simp] theorem State.retire_drawIntoF (s : State) (cost : Nat) (x : Bool) (v : Byte) :
    (s.drawIntoF v).retire cost x = (s.retire cost x).drawIntoF v := rfl

/-- A fetch, a substitution selected, and an end. -/
@[simp] theorem State.retire_select (s : State) (x : IndexSel) (cost : Nat) (b : Bool) :
    (s.select x).retire cost b = s.retire cost b := rfl

/-- All that an instruction outside the DD/FD tables does. -/
theorem perform_eq (len rinc cost : Nat) (effect : State → State) (s : State) :
    perform len rinc cost effect s = .next ((effect (s.fetched len rinc)).retire cost) := rfl

/-- All that an instruction of the DD/FD tables does. -/
theorem performIndexed_eq (x : IndexSel) (len cost : Nat) (effect : State → State) (s : State) :
    performIndexed x len cost effect s = .next ((effect ((s.fetched len 2).select x)).retire cost) := rfl

/-! ### Operand forms in the terms of Safety.lean -/

theorem displaced_eq (base : Word) (d : Byte) : displaced base d = base + sext16 d := by
  apply BitVec.eq_of_toInt_eq
  have e : (sext16 d).toInt = d.toInt := BitVec.toInt_signExtend_of_le (by decide)
  rw [displaced, BitVec.toInt_ofInt, BitVec.toInt_add, e, BitVec.toInt_eq_toNat_bmod base]
  simp

theorem halfOf_high (w : Word) : halfOf .high w = w.hi := by
  apply BitVec.eq_of_toNat_eq
  simp only [halfOf, Word.hi, BitVec.toNat_ofNat, BitVec.extractLsb'_toNat, Nat.shiftRight_eq_div_pow]

theorem halfOf_low (w : Word) : halfOf .low w = w.lo := by
  apply BitVec.eq_of_toNat_eq
  simp only [halfOf, Word.lo, BitVec.toNat_ofNat, BitVec.extractLsb'_toNat, Nat.shiftRight_eq_div_pow]
  omega

theorem Word.toNat_mk (h l : Byte) : (Word.mk h l).toNat = h.toNat * 256 + l.toNat := by
  have := h.isLt
  have := l.isLt
  simp only [Word.mk, BitVec.toNat_append, Nat.shiftLeft_eq]
  rw [Nat.mul_comm, ← Nat.two_pow_add_eq_or_of_lt (by omega : l.toNat < 2 ^ 8), Nat.mul_comm]

theorem withHalf_high (w : Word) (v : Byte) : withHalf .high w v = Word.mk v w.lo := by
  apply BitVec.eq_of_toNat_eq
  have := v.isLt
  rw [Word.toNat_mk, ← halfOf_low]
  simp only [withHalf, halfOf, BitVec.toNat_ofNat]
  omega

theorem withHalf_low (w : Word) (v : Byte) : withHalf .low w v = Word.mk w.hi v := by
  apply BitVec.eq_of_toNat_eq
  have := v.isLt
  have := w.isLt
  rw [Word.toNat_mk, ← halfOf_high]
  simp only [withHalf, halfOf, BitVec.toNat_ofNat]
  omega

end Sys2Proof.Machine
end

