-- ==== Sys2Proof/Laws/PerInstr.lean ====
section
/-! SUPPORT. The per-instruction family Size: a well-formed instruction takes one to four bytes, all of them among the bytes
that make the decoder read it (30_encoding.md rules R90, R106). -/

namespace Sys2Proof.Laws

/-- The size of an instruction. -/
def Size.Statement (i : Instr) : Prop :=
  i.wellFormed = true → 1 ≤ i.length ∧ i.length ≤ (encode i).length ∧ (encode i).length ≤ 4

/-- A size read off the instruction's own bytes. -/
theorem size_of_bytes {i : Instr} (a : Nat.ble 1 i.length = true) (b : Nat.ble i.length (encode i).length = true)
    (c : Nat.ble (encode i).length 4 = true) : Size.Statement i :=
  fun _ => ⟨Nat.le_of_ble_eq_true a, Nat.le_of_ble_eq_true b, Nat.le_of_ble_eq_true c⟩

/-- An instruction that a DD or FD prefix leaves as it is takes one to three bytes. -/
theorem encode_length_of_fallsThrough (i : Instr) (h : i.fallsThrough = true) : 1 ≤ (encode i).length ∧ (encode i).length ≤ 3 := by
  cases i <;> first | exact ⟨Nat.le_of_ble_eq_true rfl, Nat.le_of_ble_eq_true rfl⟩ | exact absurd h Bool.false_ne_true

theorem Size.djnz (e : Byte) : Size.Statement (.djnz e) := size_of_bytes rfl rfl rfl

theorem Size.jr (e : Byte) : Size.Statement (.jr e) := size_of_bytes rfl rfl rfl

theorem Size.jrCc (cc : Cond) (e : Byte) : Size.Statement (.jrCc cc e) := size_of_bytes rfl rfl rfl

theorem Size.ldRpNn (p : Pair) (nn : Word) : Size.Statement (.ldRpNn p nn) := size_of_bytes rfl rfl rfl

theorem Size.addHlRp (p : Pair) : Size.Statement (.addHlRp p) := size_of_bytes rfl rfl rfl

theorem Size.ldMemNnHl (nn : Word) : Size.Statement (.ldMemNnHl nn) := size_of_bytes rfl rfl rfl

theorem Size.ldMemNnA (nn : Word) : Size.Statement (.ldMemNnA nn) := size_of_bytes rfl rfl rfl

theorem Size.ldHlMemNn (nn : Word) : Size.Statement (.ldHlMemNn nn) := size_of_bytes rfl rfl rfl

theorem Size.ldAMemNn (nn : Word) : Size.Statement (.ldAMemNn nn) := size_of_bytes rfl rfl rfl

theorem Size.incRp (p : Pair) : Size.Statement (.incRp p) := size_of_bytes rfl rfl rfl

theorem Size.decRp (p : Pair) : Size.Statement (.decRp p) := size_of_bytes rfl rfl rfl

theorem Size.incR (r : Reg8) : Size.Statement (.incR r) := size_of_bytes rfl rfl rfl

theorem Size.decR (r : Reg8) : Size.Statement (.decR r) := size_of_bytes rfl rfl rfl

theorem Size.ldRN (r : Reg8) (n : Byte) : Size.Statement (.ldRN r n) := size_of_bytes rfl rfl rfl

theorem Size.ldMemHlN (n : Byte) : Size.Statement (.ldMemHlN n) := size_of_bytes rfl rfl rfl

theorem Size.ldRMemHl (r : Reg8) : Size.Statement (.ldRMemHl r) := size_of_bytes rfl rfl rfl

theorem Size.ldMemHlR (r : Reg8) : Size.Statement (.ldMemHlR r) := size_of_bytes rfl rfl rfl

theorem Size.ldRR (dst : Reg8) (src : Reg8) : Size.Statement (.ldRR dst src) := size_of_bytes rfl rfl rfl

theorem Size.addAR (r : Reg8) : Size.Statement (.addAR r) := size_of_bytes rfl rfl rfl

theorem Size.addAN (n : Byte) : Size.Statement (.addAN n) := size_of_bytes rfl rfl rfl

theorem Size.adcAR (r : Reg8) : Size.Statement (.adcAR r) := size_of_bytes rfl rfl rfl

theorem Size.adcAN (n : Byte) : Size.Statement (.adcAN n) := size_of_bytes rfl rfl rfl

theorem Size.subR (r : Reg8) : Size.Statement (.subR r) := size_of_bytes rfl rfl rfl

theorem Size.subN (n : Byte) : Size.Statement (.subN n) := size_of_bytes rfl rfl rfl

theorem Size.sbcAR (r : Reg8) : Size.Statement (.sbcAR r) := size_of_bytes rfl rfl rfl

theorem Size.sbcAN (n : Byte) : Size.Statement (.sbcAN n) := size_of_bytes rfl rfl rfl

theorem Size.andR (r : Reg8) : Size.Statement (.andR r) := size_of_bytes rfl rfl rfl

theorem Size.andN (n : Byte) : Size.Statement (.andN n) := size_of_bytes rfl rfl rfl

theorem Size.xorR (r : Reg8) : Size.Statement (.xorR r) := size_of_bytes rfl rfl rfl

theorem Size.xorN (n : Byte) : Size.Statement (.xorN n) := size_of_bytes rfl rfl rfl

theorem Size.orR (r : Reg8) : Size.Statement (.orR r) := size_of_bytes rfl rfl rfl

theorem Size.orN (n : Byte) : Size.Statement (.orN n) := size_of_bytes rfl rfl rfl

theorem Size.cpR (r : Reg8) : Size.Statement (.cpR r) := size_of_bytes rfl rfl rfl

theorem Size.cpN (n : Byte) : Size.Statement (.cpN n) := size_of_bytes rfl rfl rfl

theorem Size.retCc (cc : Cond) : Size.Statement (.retCc cc) := size_of_bytes rfl rfl rfl

theorem Size.popRp2 (p : StackPair) : Size.Statement (.popRp2 p) := size_of_bytes rfl rfl rfl

theorem Size.jpCcNn (cc : Cond) (nn : Word) : Size.Statement (.jpCcNn cc nn) := size_of_bytes rfl rfl rfl

theorem Size.jpNn (nn : Word) : Size.Statement (.jpNn nn) := size_of_bytes rfl rfl rfl

theorem Size.prefixCB (op : Byte) : Size.Statement (.prefixCB op) := size_of_bytes rfl rfl rfl

theorem Size.outNA (n : Byte) : Size.Statement (.outNA n) := size_of_bytes rfl rfl rfl

theorem Size.inAN (n : Byte) : Size.Statement (.inAN n) := size_of_bytes rfl rfl rfl

theorem Size.callCcNn (cc : Cond) (nn : Word) : Size.Statement (.callCcNn cc nn) := size_of_bytes rfl rfl rfl

theorem Size.pushRp2 (p : StackPair) : Size.Statement (.pushRp2 p) := size_of_bytes rfl rfl rfl

theorem Size.callNn (nn : Word) : Size.Statement (.callNn nn) := size_of_bytes rfl rfl rfl

theorem Size.prefixDD (b1 : Byte) (b2 : Byte) (b3 : Byte) : Size.Statement (.prefixDD b1 b2 b3) := size_of_bytes rfl rfl rfl

theorem Size.prefixED (b1 : Byte) (b2 : Byte) (b3 : Byte) : Size.Statement (.prefixED b1 b2 b3) := size_of_bytes rfl rfl rfl

theorem Size.prefixFD (b1 : Byte) (b2 : Byte) (b3 : Byte) : Size.Statement (.prefixFD b1 b2 b3) := size_of_bytes rfl rfl rfl

theorem Size.rst (y : Fin 8) : Size.Statement (.rst y) := size_of_bytes rfl rfl rfl

theorem Size.rlcR (r : Reg8) : Size.Statement (.rlcR r) := size_of_bytes rfl rfl rfl

theorem Size.rrcR (r : Reg8) : Size.Statement (.rrcR r) := size_of_bytes rfl rfl rfl

theorem Size.rlR (r : Reg8) : Size.Statement (.rlR r) := size_of_bytes rfl rfl rfl

theorem Size.rrR (r : Reg8) : Size.Statement (.rrR r) := size_of_bytes rfl rfl rfl

theorem Size.slaR (r : Reg8) : Size.Statement (.slaR r) := size_of_bytes rfl rfl rfl

theorem Size.sraR (r : Reg8) : Size.Statement (.sraR r) := size_of_bytes rfl rfl rfl

theorem Size.sllR (r : Reg8) : Size.Statement (.sllR r) := size_of_bytes rfl rfl rfl

theorem Size.srlR (r : Reg8) : Size.Statement (.srlR r) := size_of_bytes rfl rfl rfl

theorem Size.bitR (b : Fin 8) (r : Reg8) : Size.Statement (.bitR b r) := size_of_bytes rfl rfl rfl

theorem Size.bitMemHl (b : Fin 8) : Size.Statement (.bitMemHl b) := size_of_bytes rfl rfl rfl

theorem Size.resR (b : Fin 8) (r : Reg8) : Size.Statement (.resR b r) := size_of_bytes rfl rfl rfl

theorem Size.resMemHl (b : Fin 8) : Size.Statement (.resMemHl b) := size_of_bytes rfl rfl rfl

theorem Size.setR (b : Fin 8) (r : Reg8) : Size.Statement (.setR b r) := size_of_bytes rfl rfl rfl

theorem Size.setMemHl (b : Fin 8) : Size.Statement (.setMemHl b) := size_of_bytes rfl rfl rfl

theorem Size.inRC (r : Reg8) : Size.Statement (.inRC r) := size_of_bytes rfl rfl rfl

theorem Size.outCR (r : Reg8) : Size.Statement (.outCR r) := size_of_bytes rfl rfl rfl

theorem Size.sbcHlRp (p : Pair) : Size.Statement (.sbcHlRp p) := size_of_bytes rfl rfl rfl

theorem Size.adcHlRp (p : Pair) : Size.Statement (.adcHlRp p) := size_of_bytes rfl rfl rfl

theorem Size.ldMemNnRp (p : Pair) (nn : Word) : Size.Statement (.ldMemNnRp p nn) := size_of_bytes rfl rfl rfl

theorem Size.ldRpMemNn (p : Pair) (nn : Word) : Size.Statement (.ldRpMemNn p nn) := size_of_bytes rfl rfl rfl

theorem Size.neg (y : Fin 8) : Size.Statement (.neg y) := size_of_bytes rfl rfl rfl

theorem Size.retn (y : Fin 8) : Size.Statement (.retn y) := size_of_bytes rfl rfl rfl

theorem Size.im0 (y : Fin 8) : Size.Statement (.im0 y) := size_of_bytes rfl rfl rfl

theorem Size.im1 (y : Fin 8) : Size.Statement (.im1 y) := size_of_bytes rfl rfl rfl

theorem Size.im2 (y : Fin 8) : Size.Statement (.im2 y) := size_of_bytes rfl rfl rfl

theorem Size.undefEd77 (k : Bool) : Size.Statement (.undefEd77 k) := size_of_bytes rfl rfl rfl

theorem Size.undefEdX0 (k : Fin 64) : Size.Statement (.undefEdX0 k) := size_of_bytes rfl rfl rfl

theorem Size.undefEdX2 (k : Fin 64) : Size.Statement (.undefEdX2 k) := size_of_bytes rfl rfl rfl

theorem Size.undefEdX3 (k : Fin 64) : Size.Statement (.undefEdX3 k) := size_of_bytes rfl rfl rfl

theorem Size.ddCb (d : Byte) (op : Byte) : Size.Statement (.ddCb d op) := size_of_bytes rfl rfl rfl

theorem Size.addIxRp (p : Pair) : Size.Statement (.addIxRp p) := size_of_bytes rfl rfl rfl

theorem Size.ldIxNn (nn : Word) : Size.Statement (.ldIxNn nn) := size_of_bytes rfl rfl rfl

theorem Size.ldMemNnIx (nn : Word) : Size.Statement (.ldMemNnIx nn) := size_of_bytes rfl rfl rfl

theorem Size.ldIxMemNn (nn : Word) : Size.Statement (.ldIxMemNn nn) := size_of_bytes rfl rfl rfl

theorem Size.incIxHalf (h : Half) : Size.Statement (.incIxHalf h) := size_of_bytes rfl rfl rfl

theorem Size.decIxHalf (h : Half) : Size.Statement (.decIxHalf h) := size_of_bytes rfl rfl rfl

theorem Size.ldIxHalfN (h : Half) (n : Byte) : Size.Statement (.ldIxHalfN h n) := size_of_bytes rfl rfl rfl

theorem Size.incMemIx (d : Byte) : Size.Statement (.incMemIx d) := size_of_bytes rfl rfl rfl

theorem Size.decMemIx (d : Byte) : Size.Statement (.decMemIx d) := size_of_bytes rfl rfl rfl

theorem Size.ldMemIxN (d : Byte) (n : Byte) : Size.Statement (.ldMemIxN d n) := size_of_bytes rfl rfl rfl

theorem Size.ldRMemIx (r : Reg8) (d : Byte) : Size.Statement (.ldRMemIx r d) := size_of_bytes rfl rfl rfl

theorem Size.ldMemIxR (d : Byte) (r : Reg8) : Size.Statement (.ldMemIxR d r) := size_of_bytes rfl rfl rfl

theorem Size.ldIxHalfR (h : Half) (r : Reg8) : Size.Statement (.ldIxHalfR h r) := size_of_bytes rfl rfl rfl

theorem Size.ldRIxHalf (r : Reg8) (h : Half) : Size.Statement (.ldRIxHalf r h) := size_of_bytes rfl rfl rfl

theorem Size.addAIxHalf (h : Half) : Size.Statement (.addAIxHalf h) := size_of_bytes rfl rfl rfl

theorem Size.addAMemIx (d : Byte) : Size.Statement (.addAMemIx d) := size_of_bytes rfl rfl rfl

theorem Size.adcAIxHalf (h : Half) : Size.Statement (.adcAIxHalf h) := size_of_bytes rfl rfl rfl

theorem Size.adcAMemIx (d : Byte) : Size.Statement (.adcAMemIx d) := size_of_bytes rfl rfl rfl

theorem Size.subIxHalf (h : Half) : Size.Statement (.subIxHalf h) := size_of_bytes rfl rfl rfl

theorem Size.subMemIx (d : Byte) : Size.Statement (.subMemIx d) := size_of_bytes rfl rfl rfl

theorem Size.sbcAIxHalf (h : Half) : Size.Statement (.sbcAIxHalf h) := size_of_bytes rfl rfl rfl

theorem Size.sbcAMemIx (d : Byte) : Size.Statement (.sbcAMemIx d) := size_of_bytes rfl rfl rfl

theorem Size.andIxHalf (h : Half) : Size.Statement (.andIxHalf h) := size_of_bytes rfl rfl rfl

theorem Size.andMemIx (d : Byte) : Size.Statement (.andMemIx d) := size_of_bytes rfl rfl rfl

theorem Size.xorIxHalf (h : Half) : Size.Statement (.xorIxHalf h) := size_of_bytes rfl rfl rfl

theorem Size.xorMemIx (d : Byte) : Size.Statement (.xorMemIx d) := size_of_bytes rfl rfl rfl

theorem Size.orIxHalf (h : Half) : Size.Statement (.orIxHalf h) := size_of_bytes rfl rfl rfl

theorem Size.orMemIx (d : Byte) : Size.Statement (.orMemIx d) := size_of_bytes rfl rfl rfl

theorem Size.cpIxHalf (h : Half) : Size.Statement (.cpIxHalf h) := size_of_bytes rfl rfl rfl

theorem Size.cpMemIx (d : Byte) : Size.Statement (.cpMemIx d) := size_of_bytes rfl rfl rfl

theorem Size.fallThroughDD (inner : Instr) : Size.Statement (.fallThroughDD inner) := fun h => by
  have := encode_length_of_fallsThrough inner h
  exact ⟨Nat.le_add_left _ _, Nat.le_refl _, Nat.succ_le_succ this.2⟩

theorem Size.fdCb (d : Byte) (op : Byte) : Size.Statement (.fdCb d op) := size_of_bytes rfl rfl rfl

theorem Size.addIyRp (p : Pair) : Size.Statement (.addIyRp p) := size_of_bytes rfl rfl rfl

theorem Size.ldIyNn (nn : Word) : Size.Statement (.ldIyNn nn) := size_of_bytes rfl rfl rfl

theorem Size.ldMemNnIy (nn : Word) : Size.Statement (.ldMemNnIy nn) := size_of_bytes rfl rfl rfl

theorem Size.ldIyMemNn (nn : Word) : Size.Statement (.ldIyMemNn nn) := size_of_bytes rfl rfl rfl

theorem Size.incIyHalf (h : Half) : Size.Statement (.incIyHalf h) := size_of_bytes rfl rfl rfl

theorem Size.decIyHalf (h : Half) : Size.Statement (.decIyHalf h) := size_of_bytes rfl rfl rfl

theorem Size.ldIyHalfN (h : Half) (n : Byte) : Size.Statement (.ldIyHalfN h n) := size_of_bytes rfl rfl rfl

theorem Size.incMemIy (d : Byte) : Size.Statement (.incMemIy d) := size_of_bytes rfl rfl rfl

theorem Size.decMemIy (d : Byte) : Size.Statement (.decMemIy d) := size_of_bytes rfl rfl rfl

theorem Size.ldMemIyN (d : Byte) (n : Byte) : Size.Statement (.ldMemIyN d n) := size_of_bytes rfl rfl rfl

theorem Size.ldRMemIy (r : Reg8) (d : Byte) : Size.Statement (.ldRMemIy r d) := size_of_bytes rfl rfl rfl

theorem Size.ldMemIyR (d : Byte) (r : Reg8) : Size.Statement (.ldMemIyR d r) := size_of_bytes rfl rfl rfl

theorem Size.ldIyHalfR (h : Half) (r : Reg8) : Size.Statement (.ldIyHalfR h r) := size_of_bytes rfl rfl rfl

theorem Size.ldRIyHalf (r : Reg8) (h : Half) : Size.Statement (.ldRIyHalf r h) := size_of_bytes rfl rfl rfl

theorem Size.addAIyHalf (h : Half) : Size.Statement (.addAIyHalf h) := size_of_bytes rfl rfl rfl

theorem Size.addAMemIy (d : Byte) : Size.Statement (.addAMemIy d) := size_of_bytes rfl rfl rfl

theorem Size.adcAIyHalf (h : Half) : Size.Statement (.adcAIyHalf h) := size_of_bytes rfl rfl rfl

theorem Size.adcAMemIy (d : Byte) : Size.Statement (.adcAMemIy d) := size_of_bytes rfl rfl rfl

theorem Size.subIyHalf (h : Half) : Size.Statement (.subIyHalf h) := size_of_bytes rfl rfl rfl

theorem Size.subMemIy (d : Byte) : Size.Statement (.subMemIy d) := size_of_bytes rfl rfl rfl

theorem Size.sbcAIyHalf (h : Half) : Size.Statement (.sbcAIyHalf h) := size_of_bytes rfl rfl rfl

theorem Size.sbcAMemIy (d : Byte) : Size.Statement (.sbcAMemIy d) := size_of_bytes rfl rfl rfl

theorem Size.andIyHalf (h : Half) : Size.Statement (.andIyHalf h) := size_of_bytes rfl rfl rfl

theorem Size.andMemIy (d : Byte) : Size.Statement (.andMemIy d) := size_of_bytes rfl rfl rfl

theorem Size.xorIyHalf (h : Half) : Size.Statement (.xorIyHalf h) := size_of_bytes rfl rfl rfl

theorem Size.xorMemIy (d : Byte) : Size.Statement (.xorMemIy d) := size_of_bytes rfl rfl rfl

theorem Size.orIyHalf (h : Half) : Size.Statement (.orIyHalf h) := size_of_bytes rfl rfl rfl

theorem Size.orMemIy (d : Byte) : Size.Statement (.orMemIy d) := size_of_bytes rfl rfl rfl

theorem Size.cpIyHalf (h : Half) : Size.Statement (.cpIyHalf h) := size_of_bytes rfl rfl rfl

theorem Size.cpMemIy (d : Byte) : Size.Statement (.cpMemIy d) := size_of_bytes rfl rfl rfl

theorem Size.fallThroughFD (inner : Instr) : Size.Statement (.fallThroughFD inner) := fun h => by
  have := encode_length_of_fallsThrough inner h
  exact ⟨Nat.le_add_left _ _, Nat.le_refl _, Nat.succ_le_succ this.2⟩

theorem Size.rlcMemIx (d : Byte) : Size.Statement (.rlcMemIx d) := size_of_bytes rfl rfl rfl

theorem Size.rlcMemIxR (d : Byte) (r : Reg8) : Size.Statement (.rlcMemIxR d r) := size_of_bytes rfl rfl rfl

theorem Size.rrcMemIx (d : Byte) : Size.Statement (.rrcMemIx d) := size_of_bytes rfl rfl rfl

theorem Size.rrcMemIxR (d : Byte) (r : Reg8) : Size.Statement (.rrcMemIxR d r) := size_of_bytes rfl rfl rfl

theorem Size.rlMemIx (d : Byte) : Size.Statement (.rlMemIx d) := size_of_bytes rfl rfl rfl

theorem Size.rlMemIxR (d : Byte) (r : Reg8) : Size.Statement (.rlMemIxR d r) := size_of_bytes rfl rfl rfl

theorem Size.rrMemIx (d : Byte) : Size.Statement (.rrMemIx d) := size_of_bytes rfl rfl rfl

theorem Size.rrMemIxR (d : Byte) (r : Reg8) : Size.Statement (.rrMemIxR d r) := size_of_bytes rfl rfl rfl

theorem Size.slaMemIx (d : Byte) : Size.Statement (.slaMemIx d) := size_of_bytes rfl rfl rfl

theorem Size.slaMemIxR (d : Byte) (r : Reg8) : Size.Statement (.slaMemIxR d r) := size_of_bytes rfl rfl rfl

theorem Size.sraMemIx (d : Byte) : Size.Statement (.sraMemIx d) := size_of_bytes rfl rfl rfl

theorem Size.sraMemIxR (d : Byte) (r : Reg8) : Size.Statement (.sraMemIxR d r) := size_of_bytes rfl rfl rfl

theorem Size.sllMemIx (d : Byte) : Size.Statement (.sllMemIx d) := size_of_bytes rfl rfl rfl

theorem Size.sllMemIxR (d : Byte) (r : Reg8) : Size.Statement (.sllMemIxR d r) := size_of_bytes rfl rfl rfl

theorem Size.srlMemIx (d : Byte) : Size.Statement (.srlMemIx d) := size_of_bytes rfl rfl rfl

theorem Size.srlMemIxR (d : Byte) (r : Reg8) : Size.Statement (.srlMemIxR d r) := size_of_bytes rfl rfl rfl

theorem Size.bitMemIx (b : Fin 8) (d : Byte) (z : Fin 8) : Size.Statement (.bitMemIx b d z) := size_of_bytes rfl rfl rfl

theorem Size.resMemIx (b : Fin 8) (d : Byte) : Size.Statement (.resMemIx b d) := size_of_bytes rfl rfl rfl

theorem Size.resMemIxR (b : Fin 8) (d : Byte) (r : Reg8) : Size.Statement (.resMemIxR b d r) := size_of_bytes rfl rfl rfl

theorem Size.setMemIx (b : Fin 8) (d : Byte) : Size.Statement (.setMemIx b d) := size_of_bytes rfl rfl rfl

theorem Size.setMemIxR (b : Fin 8) (d : Byte) (r : Reg8) : Size.Statement (.setMemIxR b d r) := size_of_bytes rfl rfl rfl

theorem Size.rlcMemIy (d : Byte) : Size.Statement (.rlcMemIy d) := size_of_bytes rfl rfl rfl

theorem Size.rlcMemIyR (d : Byte) (r : Reg8) : Size.Statement (.rlcMemIyR d r) := size_of_bytes rfl rfl rfl

theorem Size.rrcMemIy (d : Byte) : Size.Statement (.rrcMemIy d) := size_of_bytes rfl rfl rfl

theorem Size.rrcMemIyR (d : Byte) (r : Reg8) : Size.Statement (.rrcMemIyR d r) := size_of_bytes rfl rfl rfl

theorem Size.rlMemIy (d : Byte) : Size.Statement (.rlMemIy d) := size_of_bytes rfl rfl rfl

theorem Size.rlMemIyR (d : Byte) (r : Reg8) : Size.Statement (.rlMemIyR d r) := size_of_bytes rfl rfl rfl

theorem Size.rrMemIy (d : Byte) : Size.Statement (.rrMemIy d) := size_of_bytes rfl rfl rfl

theorem Size.rrMemIyR (d : Byte) (r : Reg8) : Size.Statement (.rrMemIyR d r) := size_of_bytes rfl rfl rfl

theorem Size.slaMemIy (d : Byte) : Size.Statement (.slaMemIy d) := size_of_bytes rfl rfl rfl

theorem Size.slaMemIyR (d : Byte) (r : Reg8) : Size.Statement (.slaMemIyR d r) := size_of_bytes rfl rfl rfl

theorem Size.sraMemIy (d : Byte) : Size.Statement (.sraMemIy d) := size_of_bytes rfl rfl rfl

theorem Size.sraMemIyR (d : Byte) (r : Reg8) : Size.Statement (.sraMemIyR d r) := size_of_bytes rfl rfl rfl

theorem Size.sllMemIy (d : Byte) : Size.Statement (.sllMemIy d) := size_of_bytes rfl rfl rfl

theorem Size.sllMemIyR (d : Byte) (r : Reg8) : Size.Statement (.sllMemIyR d r) := size_of_bytes rfl rfl rfl

theorem Size.srlMemIy (d : Byte) : Size.Statement (.srlMemIy d) := size_of_bytes rfl rfl rfl

theorem Size.srlMemIyR (d : Byte) (r : Reg8) : Size.Statement (.srlMemIyR d r) := size_of_bytes rfl rfl rfl

theorem Size.bitMemIy (b : Fin 8) (d : Byte) (z : Fin 8) : Size.Statement (.bitMemIy b d z) := size_of_bytes rfl rfl rfl

theorem Size.resMemIy (b : Fin 8) (d : Byte) : Size.Statement (.resMemIy b d) := size_of_bytes rfl rfl rfl

theorem Size.resMemIyR (b : Fin 8) (d : Byte) (r : Reg8) : Size.Statement (.resMemIyR b d r) := size_of_bytes rfl rfl rfl

theorem Size.setMemIy (b : Fin 8) (d : Byte) : Size.Statement (.setMemIy b d) := size_of_bytes rfl rfl rfl

theorem Size.setMemIyR (b : Fin 8) (d : Byte) (r : Reg8) : Size.Statement (.setMemIyR b d r) := size_of_bytes rfl rfl rfl

theorem Size.nop : Size.Statement .nop := size_of_bytes rfl rfl rfl

theorem Size.exAfAf : Size.Statement .exAfAf := size_of_bytes rfl rfl rfl

theorem Size.ldMemBcA : Size.Statement .ldMemBcA := size_of_bytes rfl rfl rfl

theorem Size.ldMemDeA : Size.Statement .ldMemDeA := size_of_bytes rfl rfl rfl

theorem Size.ldAMemBc : Size.Statement .ldAMemBc := size_of_bytes rfl rfl rfl

theorem Size.ldAMemDe : Size.Statement .ldAMemDe := size_of_bytes rfl rfl rfl

theorem Size.incMemHl : Size.Statement .incMemHl := size_of_bytes rfl rfl rfl

theorem Size.decMemHl : Size.Statement .decMemHl := size_of_bytes rfl rfl rfl

theorem Size.rlca : Size.Statement .rlca := size_of_bytes rfl rfl rfl

theorem Size.rrca : Size.Statement .rrca := size_of_bytes rfl rfl rfl

theorem Size.rla : Size.Statement .rla := size_of_bytes rfl rfl rfl

theorem Size.rra : Size.Statement .rra := size_of_bytes rfl rfl rfl

theorem Size.daa : Size.Statement .daa := size_of_bytes rfl rfl rfl

theorem Size.cpl : Size.Statement .cpl := size_of_bytes rfl rfl rfl

theorem Size.scf : Size.Statement .scf := size_of_bytes rfl rfl rfl

theorem Size.ccf : Size.Statement .ccf := size_of_bytes rfl rfl rfl

theorem Size.halt : Size.Statement .halt := size_of_bytes rfl rfl rfl

theorem Size.addAMemHl : Size.Statement .addAMemHl := size_of_bytes rfl rfl rfl

theorem Size.adcAMemHl : Size.Statement .adcAMemHl := size_of_bytes rfl rfl rfl

theorem Size.subMemHl : Size.Statement .subMemHl := size_of_bytes rfl rfl rfl

theorem Size.sbcAMemHl : Size.Statement .sbcAMemHl := size_of_bytes rfl rfl rfl

theorem Size.andMemHl : Size.Statement .andMemHl := size_of_bytes rfl rfl rfl

theorem Size.xorMemHl : Size.Statement .xorMemHl := size_of_bytes rfl rfl rfl

theorem Size.orMemHl : Size.Statement .orMemHl := size_of_bytes rfl rfl rfl

theorem Size.cpMemHl : Size.Statement .cpMemHl := size_of_bytes rfl rfl rfl

theorem Size.ret : Size.Statement .ret := size_of_bytes rfl rfl rfl

theorem Size.exx : Size.Statement .exx := size_of_bytes rfl rfl rfl

theorem Size.jpHl : Size.Statement .jpHl := size_of_bytes rfl rfl rfl

theorem Size.ldSpHl : Size.Statement .ldSpHl := size_of_bytes rfl rfl rfl

theorem Size.exMemSpHl : Size.Statement .exMemSpHl := size_of_bytes rfl rfl rfl

theorem Size.exDeHl : Size.Statement .exDeHl := size_of_bytes rfl rfl rfl

theorem Size.di : Size.Statement .di := size_of_bytes rfl rfl rfl

theorem Size.ei : Size.Statement .ei := size_of_bytes rfl rfl rfl

theorem Size.rlcMemHl : Size.Statement .rlcMemHl := size_of_bytes rfl rfl rfl

theorem Size.rrcMemHl : Size.Statement .rrcMemHl := size_of_bytes rfl rfl rfl

theorem Size.rlMemHl : Size.Statement .rlMemHl := size_of_bytes rfl rfl rfl

theorem Size.rrMemHl : Size.Statement .rrMemHl := size_of_bytes rfl rfl rfl

theorem Size.slaMemHl : Size.Statement .slaMemHl := size_of_bytes rfl rfl rfl

theorem Size.sraMemHl : Size.Statement .sraMemHl := size_of_bytes rfl rfl rfl

theorem Size.sllMemHl : Size.Statement .sllMemHl := size_of_bytes rfl rfl rfl

theorem Size.srlMemHl : Size.Statement .srlMemHl := size_of_bytes rfl rfl rfl

theorem Size.inFC : Size.Statement .inFC := size_of_bytes rfl rfl rfl

theorem Size.outC0 : Size.Statement .outC0 := size_of_bytes rfl rfl rfl

theorem Size.reti : Size.Statement .reti := size_of_bytes rfl rfl rfl

theorem Size.ldIA : Size.Statement .ldIA := size_of_bytes rfl rfl rfl

theorem Size.ldRA : Size.Statement .ldRA := size_of_bytes rfl rfl rfl

theorem Size.ldAI : Size.Statement .ldAI := size_of_bytes rfl rfl rfl

theorem Size.ldAR : Size.Statement .ldAR := size_of_bytes rfl rfl rfl

theorem Size.rrd : Size.Statement .rrd := size_of_bytes rfl rfl rfl

theorem Size.rld : Size.Statement .rld := size_of_bytes rfl rfl rfl

theorem Size.ldi : Size.Statement .ldi := size_of_bytes rfl rfl rfl

theorem Size.cpi : Size.Statement .cpi := size_of_bytes rfl rfl rfl

theorem Size.ini : Size.Statement .ini := size_of_bytes rfl rfl rfl

theorem Size.outi : Size.Statement .outi := size_of_bytes rfl rfl rfl

theorem Size.ldd : Size.Statement .ldd := size_of_bytes rfl rfl rfl

theorem Size.cpd : Size.Statement .cpd := size_of_bytes rfl rfl rfl

theorem Size.ind : Size.Statement .ind := size_of_bytes rfl rfl rfl

theorem Size.outd : Size.Statement .outd := size_of_bytes rfl rfl rfl

theorem Size.ldir : Size.Statement .ldir := size_of_bytes rfl rfl rfl

theorem Size.cpir : Size.Statement .cpir := size_of_bytes rfl rfl rfl

theorem Size.inir : Size.Statement .inir := size_of_bytes rfl rfl rfl

theorem Size.otir : Size.Statement .otir := size_of_bytes rfl rfl rfl

theorem Size.lddr : Size.Statement .lddr := size_of_bytes rfl rfl rfl

theorem Size.cpdr : Size.Statement .cpdr := size_of_bytes rfl rfl rfl

theorem Size.indr : Size.Statement .indr := size_of_bytes rfl rfl rfl

theorem Size.otdr : Size.Statement .otdr := size_of_bytes rfl rfl rfl

theorem Size.danglingDdDd : Size.Statement .danglingDdDd := size_of_bytes rfl rfl rfl

theorem Size.danglingDdFd : Size.Statement .danglingDdFd := size_of_bytes rfl rfl rfl

theorem Size.danglingDdEd : Size.Statement .danglingDdEd := size_of_bytes rfl rfl rfl

theorem Size.incIx : Size.Statement .incIx := size_of_bytes rfl rfl rfl

theorem Size.decIx : Size.Statement .decIx := size_of_bytes rfl rfl rfl

theorem Size.popIx : Size.Statement .popIx := size_of_bytes rfl rfl rfl

theorem Size.exMemSpIx : Size.Statement .exMemSpIx := size_of_bytes rfl rfl rfl

theorem Size.pushIx : Size.Statement .pushIx := size_of_bytes rfl rfl rfl

theorem Size.jpIx : Size.Statement .jpIx := size_of_bytes rfl rfl rfl

theorem Size.ldSpIx : Size.Statement .ldSpIx := size_of_bytes rfl rfl rfl

theorem Size.danglingFdDd : Size.Statement .danglingFdDd := size_of_bytes rfl rfl rfl

theorem Size.danglingFdFd : Size.Statement .danglingFdFd := size_of_bytes rfl rfl rfl

theorem Size.danglingFdEd : Size.Statement .danglingFdEd := size_of_bytes rfl rfl rfl

theorem Size.incIy : Size.Statement .incIy := size_of_bytes rfl rfl rfl

theorem Size.decIy : Size.Statement .decIy := size_of_bytes rfl rfl rfl

theorem Size.popIy : Size.Statement .popIy := size_of_bytes rfl rfl rfl

theorem Size.exMemSpIy : Size.Statement .exMemSpIy := size_of_bytes rfl rfl rfl

theorem Size.pushIy : Size.Statement .pushIy := size_of_bytes rfl rfl rfl

theorem Size.jpIy : Size.Statement .jpIy := size_of_bytes rfl rfl rfl

theorem Size.ldSpIy : Size.Statement .ldSpIy := size_of_bytes rfl rfl rfl

end Sys2Proof.Laws
end

