-- ==== Sys2Proof/Tests/Slice0.lean ====
section
/-! SUPPORT. The model's own tests: terms that WellFormed refuses, words of the spec's encodings, single steps of the vectors of
95_test_vectors.md, and for every obligation with hypotheses a state and operands that meet them. Every expected value is the
spec's. -/

open Sys2Proof Sys2Proof.Machine

namespace Sys2Proof.Tests

set_option Elab.async false

/-- The environment of 92_eei_decisions.md D39: the reset state, in the variant whose boundary does nothing. -/
def base : State := { State.reset with variant := .nonContendedNoInterrupt }

/-- The same in the variant with interrupts. -/
def window : State := State.reset

/-- The step from `s` ends in `t`. -/
def stepsTo (s t : State) : Bool :=
  match step s with
  | .next u => u == t
  | _ => false

/-- The step from `s` ends in `t` but for F, some bits of which are a draw. -/
def stepsToButF (s t : State) : Bool :=
  match step s with
  | .next u => u.setF 0 == t.setF 0
  | _ => false

/-- `deliver-interrupt` at `s` ends in `t`. -/
def delivers (s t : State) : Bool := deliverInterrupt s == t

/-! ### Terms that WellFormed refuses, one per check -/

theorem test_wf_jr_takes_four_conditions :
    (Instr.jrCc .c 0).wellFormed = true ∧ (Instr.jrCc .po 0).wellFormed = false ∧ (Instr.jrCc .m 0).wellFormed = false := by decide
theorem test_wf_prefix_rows_are_no_instructions :
    (Instr.prefixCB 0).wellFormed = false ∧ (Instr.prefixDD 0 0 0).wellFormed = false ∧
    (Instr.prefixED 0 0 0).wellFormed = false ∧ (Instr.prefixFD 0 0 0).wellFormed = false ∧
    (Instr.ddCb 0 0).wellFormed = false ∧ (Instr.fdCb 0 0).wellFormed = false := by decide
theorem test_wf_retn_is_not_reti : (Instr.retn 1).wellFormed = false ∧ (Instr.retn 0).wellFormed = true := by decide
theorem test_wf_im0 : (Instr.im0 2).wellFormed = false ∧ (Instr.im0 5).wellFormed = true := by decide
theorem test_wf_im1 : (Instr.im1 3).wellFormed = false ∧ (Instr.im1 6).wellFormed = true := by decide
theorem test_wf_im2 : (Instr.im2 0).wellFormed = false ∧ (Instr.im2 7).wellFormed = true := by decide
theorem test_wf_undefined_ed_is_no_block_code :
    (Instr.undefEdX2 0x20).wellFormed = false ∧ (Instr.undefEdX2 0x3B).wellFormed = false ∧
    (Instr.undefEdX2 0x1F).wellFormed = true ∧ (Instr.undefEdX2 0x24).wellFormed = true := by decide
theorem test_wf_ld_from_half_has_a_plain_destination :
    (Instr.ldRIxHalf .h .low).wellFormed = false ∧ (Instr.ldRIyHalf .l .high).wellFormed = false ∧
    (Instr.ldRIxHalf .a .low).wellFormed = true := by decide
theorem test_wf_fall_through_leaves_hl_alone :
    (Instr.fallThroughDD (.addHlRp .bc)).wellFormed = false ∧ (Instr.fallThroughFD (.ldRR .b .h)).wellFormed = false ∧
    (Instr.fallThroughDD (.fallThroughDD .nop)).wellFormed = false ∧ (Instr.fallThroughFD .halt).wellFormed = true := by decide

/-! ### Words written out from the encodings, field by field -/

/-- R200: `01 yyy zzz`, y = 2, z = 5. -/
theorem test_word_ldRR : decode [0b01010101] = .ok (.ldRR .d .l) [] := by decide +kernel
/-- R201: `00 yyy 110` n, y = 7. -/
theorem test_word_ldRN : decode [0b00111110, 0x7F] = .ok (.ldRN .a 0x7F) [] := by decide +kernel
/-- R213: DD `36` d n. -/
theorem test_word_ldMemIxN : decode [0xDD, 0x36, 0x02, 0x5A] = .ok (.ldMemIxN 0x02 0x5A) [] := by decide +kernel
/-- R214: FD `01 yyy zzz`, y = 4, z = 0. -/
theorem test_word_ldIyHalfR : decode [0xFD, 0b01100000] = .ok (.ldIyHalfR .high .b) [] := by decide +kernel
/-- R211: DD `01 yyy 110` d, y = 4: H, not IXH. -/
theorem test_word_ldRMemIx : decode [0xDD, 0b01100110, 0x80] = .ok (.ldRMemIx .h 0x80) [] := by decide +kernel
/-- R240: `00 pp0 001` nl nh, p = 3. -/
theorem test_word_ldRpNn : decode [0b00110001, 0x00, 0xF0] = .ok (.ldRpNn .sp 0xF000) [] := by decide +kernel
/-- R244, R245: ED `01 pp1 011` and `01 pp0 011` nl nh, p = 1. -/
theorem test_word_ldRpMemNn :
    decode [0xED, 0b01011011, 0x02, 0x90] = .ok (.ldRpMemNn .de 0x9002) [] ∧
    decode [0xED, 0b01010011, 0x02, 0x90] = .ok (.ldMemNnRp .de 0x9002) [] := by decide +kernel
/-- R250, R252: `11 pp0 101` and `11 pp0 001`, p = 3: AF. -/
theorem test_word_push_pop :
    decode [0b11110101] = .ok (.pushRp2 .af) [] ∧ decode [0b11110001] = .ok (.popRp2 .af) [] := by decide +kernel
/-- 30_encoding.md R103: the block codes `10 yyy zzz`, z = 0 to 3, y = 4 to 7. -/
theorem test_word_block :
    decode [0xED, 0b10100000] = .ok .ldi [] ∧ decode [0xED, 0b10111001] = .ok .cpdr [] ∧
    decode [0xED, 0b10110010] = .ok .inir [] ∧ decode [0xED, 0b10101011] = .ok .outd [] := by decide +kernel
/-- R320: `10 yyy zzz` and `11 yyy 110` n, y = 3 and 7. -/
theorem test_word_alu :
    decode [0b10011001] = .ok (.sbcAR .c) [] ∧ decode [0b11111110, 0x28] = .ok (.cpN 0x28) [] ∧
    decode [0xFD, 0b10101110, 0x05] = .ok (.xorMemIy 0x05) [] := by decide +kernel
/-- R329, R331: `00 yyy 100` and `00 yyy 101`; DD with y = 5 is IXL. -/
theorem test_word_inc_dec :
    decode [0b00011100] = .ok (.incR .e) [] ∧ decode [0xDD, 0b00101101] = .ok (.decIxHalf .low) [] := by decide +kernel
/-- R370 to R375: `00 pp1 001`, ED `01 pp1 010`, `00 pp1 011`. -/
theorem test_word_alu16 :
    decode [0b00111001] = .ok (.addHlRp .sp) [] ∧ decode [0xED, 0b01101010] = .ok (.adcHlRp .hl) [] ∧
    decode [0b00001011] = .ok (.decRp .bc) [] ∧ decode [0xDD, 0b00101001] = .ok (.addIxRp .hl) [] := by decide +kernel
/-- R394: CB `00 yyy zzz`, y = 6; DD CB d `00 yyy zzz`, y = 1, z = 4. -/
theorem test_word_rotate :
    decode [0xCB, 0b00110111] = .ok (.sllR .a) [] ∧
    decode [0xDD, 0xCB, 0x7F, 0b00001100] = .ok (.rrcMemIxR 0x7F .h) [] := by decide +kernel
/-- R405 to R409: `01`, `10`, `11` with the bit number in yyy. -/
theorem test_word_bit :
    decode [0xCB, 0b01111100] = .ok (.bitR 7 .h) [] ∧ decode [0xCB, 0b10000110] = .ok (.resMemHl 0) [] ∧
    decode [0xFD, 0xCB, 0xFF, 0b11100110] = .ok (.setMemIy 4 0xFF) [] ∧
    decode [0xDD, 0xCB, 0x01, 0b01000000] = .ok (.bitMemIx 0 0x01 0) [] := by decide +kernel
/-- R442, R444, R450, R453: the condition and the restart number in yyy; JR cc takes y - 4. -/
theorem test_word_control :
    decode [0b11101010, 0x34, 0x12] = .ok (.jpCcNn .pe 0x1234) [] ∧ decode [0b00111000, 0x10] = .ok (.jrCc .c 0x10) [] ∧
    decode [0b11111000] = .ok (.retCc .m) [] ∧ decode [0b11101111] = .ok (.rst 5) [] := by decide +kernel
/-- R481, R484: ED `01 yyy 000` and `01 yyy 001`; y = 6 is IN F,(C) and OUT (C),0. -/
theorem test_word_ports :
    decode [0xED, 0b01111000] = .ok (.inRC .a) [] ∧ decode [0xED, 0b01110000] = .ok .inFC [] ∧
    decode [0xED, 0b01001001] = .ok (.outCR .c) [] ∧ decode [0xED, 0b01110001] = .ok .outC0 [] := by decide +kernel
/-- R490 to R493: ED `01 yyy 110`; ED 77 is undefined. -/
theorem test_word_cpu_control :
    decode [0xED, 0b01011110] = .ok (.im2 3) [] ∧ decode [0xED, 0b01100110] = .ok (.im0 4) [] ∧
    decode [0xED, 0x77] = .ok (.undefEd77 false) [] ∧ decode [0xED, 0xFF] = .ok (.undefEdX3 0x3F) [] := by decide +kernel
/-- 40_engine.md R167, R168: DD EB keeps EX DE,HL; FD before FD takes one byte. -/
theorem test_word_prefixes :
    decode [0xDD, 0xEB] = .ok (.fallThroughDD .exDeHl) [] ∧
    decode [0xFD, 0xFD, 0x21] = .ok .danglingFdFd [0xFD, 0x21] := by decide +kernel
/-- The decoder rejects by name what does not hold a whole instruction. -/
theorem test_word_truncated :
    decode [] = .rejected .truncated ∧ decode [0xDD, 0xCB, 0x00] = .rejected .truncated := by decide +kernel
/-- 30_encoding.md R110: the table's bit numbering, the first byte lowest. -/
theorem test_table_word :
    decodeTableWord 8 0x41 = some (.ldRR .b .c) ∧ decodeTableWord 16 0x57ED = some .ldAI := by decide +kernel
/-- An instruction placed where the step fetches runs as the first after reset. -/
theorem test_withFetchWord :
    stepsTo (State.reset.withFetchWord 8 0x3C)
      { State.reset.withFetchWord 8 0x3C with
        main := { State.reset.main with a := 0x01 }, pc := 1, r := 1
        iCount := State.reset.iCount - 4, elapsed := 4 } = true := by decide +kernel

/-! ### Reset -/

/-- V-S2: every register changed, then the reset operation. -/
theorem test_S2_reset :
    let junk : RegSet := { a := 0x5A, f := 0x5A, b := 0x5A, c := 0x5A, d := 0x5A, e := 0x5A, h := 0x5A, l := 0x5A }
    let s : State :=
      { base.placeBytes 0x8000 [0x76] with
        main := junk, shadow := junk, ix := 0x1234, iy := 0x1234, sp := 0x4000, pc := 0x8000, iff1 := true, iff2 := true
        im := .im2, halted := true, intInhibit := true, iCount := -7 }
    s.resetWith Config.resetParams = base.placeBytes 0x8000 [0x76] := by decide +kernel

/-! ### Engine, prefixes, halt (95_test_vectors.md) -/

/-- V-E2 (R28, R158): R keeps bit 7 and wraps its low 7 bits. -/
theorem test_E2_r_keeps_bit_7_and_wraps_its_low_7 :
    let s := ({ base with r := 0xFF }.placeBytes 0x0000 [0x00])
    stepsTo s { s with pc := 0x0001, r := 0x80, iCount := s.iCount - 4, elapsed := 4 } = true := by decide +kernel

/-- V-E9 (R167): DD EB falls through: EX DE,HL, not IX. -/
theorem test_E9_dd_eb_falls_through :
    let s := ({ base with main := { base.main with d := 0x11, e := 0x11, h := 0x22, l := 0x22 }, ix := 0x3333 }.placeBytes 0x0000 [0xDD, 0xEB])
    stepsTo s { s with main := { s.main with d := 0x22, e := 0x22, h := 0x11, l := 0x11 }, pc := 0x0002, r := 0x02, iCount := s.iCount - 8, elapsed := 8 } = true := by decide +kernel

/-- V-E10 (R168, R171): dangling DD before DD: 4 cycles, R + 1, PC + 1, intInhibit = 1. -/
theorem test_E10_dangling_dd_before_dd :
    let s := (base.placeBytes 0x0000 [0xDD, 0xDD, 0x21, 0x34, 0x12])
    stepsTo s { s with pc := 0x0001, r := 0x01, intInhibit := true, iCount := s.iCount - 4, elapsed := 4 } = true := by decide +kernel

/-- V-E14 (R165): IXH/IXL substitution: DD 65 is LD IXH,IXL. -/
theorem test_E14_ixh_ixl_substitution :
    let s := ({ base with ix := 0x1234 }.placeBytes 0x0000 [0xDD, 0x65])
    stepsTo s { s with ix := 0x3434, pc := 0x0002, r := 0x02, iCount := s.iCount - 8, elapsed := 8 } = true := by decide +kernel

/-- V-E16 (R165): IX+d wraps modulo 2^16. -/
theorem test_E16_ix_d_wraps_modulo_2_16 :
    let s := (({ base with ix := 0xFFFF }.placeBytes 0x0000 [0xDD, 0x7E, 0x01]).placeBytes 0x0000 [0xDD])
    stepsTo s { s with main := { s.main with a := 0xDD }, pc := 0x0003, r := 0x02, iCount := s.iCount - 19, elapsed := 19 } = true := by decide +kernel

/-- V-E17 (R169, R158): DDCB: RLC (IX+5), R + 2 only. -/
theorem test_E17_ddcb :
    let s := (({ base with ix := 0x2000 }.placeBytes 0x0000 [0xDD, 0xCB, 0x05, 0x06]).placeBytes 0x2005 [0x81])
    stepsTo s ({ s with main := { s.main with f := 0x05 }, pc := 0x0004, r := 0x02, iCount := s.iCount - 23, elapsed := 23 }.placeBytes 0x2005 [0x03]) = true := by decide +kernel

/-- V-E18 (R156, R175): halted step re-executes the HALT at PC-1. -/
theorem test_E18_halted_step_re_executes_the_halt_a :
    let s := ({ base with halted := true, pc := 0x0001 }.placeBytes 0x0000 [0x76, 0x00])
    stepsTo s { s with r := 0x01, iCount := s.iCount - 4, elapsed := 4 } = true := by decide +kernel

/-- V-E19 (R175): halted with a non-HALT byte at PC-1 (host-set): that byte executes. -/
theorem test_E19_halted_with_a_non_halt_byte_at_pc :
    let s := ({ base with main := { base.main with a := 0x10 }, halted := true, pc := 0x0001 }.placeBytes 0x0000 [0x3C, 0x00])
    stepsTo s { s with main := { s.main with a := 0x11 }, r := 0x01, iCount := s.iCount - 4, elapsed := 4 } = true := by decide +kernel

/-- V-E20 (R487): HALT: halted = 1, PC past the HALT. -/
theorem test_E20_halt :
    let s := (base.placeBytes 0x0000 [0x76])
    stepsTo s { s with pc := 0x0001, r := 0x01, halted := true, iCount := s.iCount - 4, elapsed := 4 } = true := by decide +kernel

/-- V-S5a (R165, R166): prefix symmetry: DD 09 is ADD IX,BC. -/
theorem test_S5a_prefix_symmetry :
    let s := ({ base with main := { base.main with b := 0x0F, c := 0xFF, f := 0xC4 }, ix := 0x0001 }.placeBytes 0x0000 [0xDD, 0x09])
    stepsTo s { s with main := { s.main with f := 0xD4 }, ix := 0x1000, pc := 0x0002, r := 0x02, iCount := s.iCount - 15, elapsed := 15 } = true := by decide +kernel

/-! ### 8-bit loads (95_test_vectors.md) -/

/-- V-L1 (R200): LD B,C. -/
theorem test_L1_ld_b_c :
    let s := ({ base with main := { base.main with c := 0x5A } }.placeBytes 0x0000 [0x41])
    stepsTo s { s with main := { s.main with b := 0x5A }, pc := 0x0001, r := 0x01, iCount := s.iCount - 4, elapsed := 4 } = true := by decide +kernel

/-- V-L3 (R201): LD E,n. -/
theorem test_L3_ld_e_n :
    let s := (base.placeBytes 0x0000 [0x1E, 0x9C])
    stepsTo s { s with main := { s.main with e := 0x9C }, pc := 0x0002, r := 0x01, iCount := s.iCount - 7, elapsed := 7 } = true := by decide +kernel

/-- V-L4 (R202): LD A,(HL). -/
theorem test_L4_ld_a_hl :
    let s := (({ base with main := { base.main with h := 0x80, l := 0x00 } }.placeBytes 0x0000 [0x7E]).placeBytes 0x8000 [0xA5])
    stepsTo s { s with main := { s.main with a := 0xA5 }, pc := 0x0001, r := 0x01, iCount := s.iCount - 7, elapsed := 7 } = true := by decide +kernel

/-- V-L5 (R203): LD (HL),H writes the high byte of the address. -/
theorem test_L5_ld_hl_h_writes_the_high_byte_of_th :
    let s := ({ base with main := { base.main with h := 0x80, l := 0x01 } }.placeBytes 0x0000 [0x74])
    stepsTo s ({ s with pc := 0x0001, r := 0x01, iCount := s.iCount - 7, elapsed := 7 }.placeBytes 0x8001 [0x80]) = true := by decide +kernel

/-- V-L7 (R205): LD A,(BC). -/
theorem test_L7_ld_a_bc :
    let s := (({ base with main := { base.main with b := 0x40, c := 0x00 } }.placeBytes 0x0000 [0x0A]).placeBytes 0x4000 [0x11])
    stepsTo s { s with main := { s.main with a := 0x11 }, pc := 0x0001, r := 0x01, iCount := s.iCount - 7, elapsed := 7 } = true := by decide +kernel

/-- V-L9 (R207): LD A,(nn). -/
theorem test_L9_ld_a_nn :
    let s := ((base.placeBytes 0x0000 [0x3A, 0x00, 0x50]).placeBytes 0x5000 [0x99])
    stepsTo s { s with main := { s.main with a := 0x99 }, pc := 0x0003, r := 0x01, iCount := s.iCount - 13, elapsed := 13 } = true := by decide +kernel

/-- V-L10 (R208): LD (BC),A. -/
theorem test_L10_ld_bc_a :
    let s := ({ base with main := { base.main with b := 0x40, c := 0x00, a := 0x12 } }.placeBytes 0x0000 [0x02])
    stepsTo s ({ s with pc := 0x0001, r := 0x01, iCount := s.iCount - 7, elapsed := 7 }.placeBytes 0x4000 [0x12]) = true := by decide +kernel

/-- V-L12 (R210): LD (nn),A. -/
theorem test_L12_ld_nn_a :
    let s := ({ base with main := { base.main with a := 0x56 } }.placeBytes 0x0000 [0x32, 0xFF, 0xFF])
    stepsTo s ({ s with pc := 0x0003, r := 0x01, iCount := s.iCount - 13, elapsed := 13 }.placeBytes 0xFFFF [0x56]) = true := by decide +kernel

/-- V-L13 (R211): LD B,(IY+0x7F) (largest positive displacement). -/
theorem test_L13_ld_b_iy_0x7f_largest_positive_disp :
    let s := (({ base with iy := 0x1000 }.placeBytes 0x0000 [0xFD, 0x46, 0x7F]).placeBytes 0x107F [0xEE])
    stepsTo s { s with main := { s.main with b := 0xEE }, pc := 0x0003, r := 0x02, iCount := s.iCount - 19, elapsed := 19 } = true := by decide +kernel

/-- V-L14 (R212): LD (IX-0x80),L (most negative displacement). -/
theorem test_L14_ld_ix_0x80_l_most_negative_displac :
    let s := ({ base with main := { base.main with l := 0xAB }, ix := 0x1000 }.placeBytes 0x0000 [0xDD, 0x75, 0x80])
    stepsTo s ({ s with pc := 0x0003, r := 0x02, iCount := s.iCount - 19, elapsed := 19 }.placeBytes 0x0F80 [0xAB]) = true := by decide +kernel

/-- V-L15 (R213): LD (IX+2),n: displacement before immediate. -/
theorem test_L15_ld_ix_2_n :
    let s := ({ base with ix := 0x3000 }.placeBytes 0x0000 [0xDD, 0x36, 0x02, 0x77])
    stepsTo s ({ s with pc := 0x0004, r := 0x02, iCount := s.iCount - 19, elapsed := 19 }.placeBytes 0x3002 [0x77]) = true := by decide +kernel

/-- V-L16 (R214): LD A,IYL (undocumented). -/
theorem test_L16_ld_a_iyl :
    let s := ({ base with iy := 0xBEEF }.placeBytes 0x0000 [0xFD, 0x7D])
    stepsTo s { s with main := { s.main with a := 0xEF }, pc := 0x0002, r := 0x02, iCount := s.iCount - 8, elapsed := 8 } = true := by decide +kernel

/-- V-L17 (R214): LD IXL,B (undocumented). -/
theorem test_L17_ld_ixl_b :
    let s := ({ base with main := { base.main with b := 0x42 }, ix := 0x1200 }.placeBytes 0x0000 [0xDD, 0x68])
    stepsTo s { s with ix := 0x1242, pc := 0x0002, r := 0x02, iCount := s.iCount - 8, elapsed := 8 } = true := by decide +kernel

/-- V-L18 (R215): LD IYH,n (undocumented). -/
theorem test_L18_ld_iyh_n :
    let s := ({ base with iy := 0x00FF }.placeBytes 0x0000 [0xFD, 0x26, 0x80])
    stepsTo s { s with iy := 0x80FF, pc := 0x0003, r := 0x02, iCount := s.iCount - 11, elapsed := 11 } = true := by decide +kernel

/-- V-L19 (R216): LD A,I with IFF2 = 1: PV = IFF2. -/
theorem test_L19_ld_a_i_with_iff2_1 :
    let s := ({ base with main := { base.main with f := 0x01 }, i := 0x80, iff2 := true }.placeBytes 0x0000 [0xED, 0x57])
    stepsTo s { s with main := { s.main with a := 0x80, f := 0x85 }, pc := 0x0002, r := 0x02, iCount := s.iCount - 9, elapsed := 9 } = true := by decide +kernel

/-- V-L21 (R217): LD A,R reads R after both increments of this instruction. -/
theorem test_L21_ld_a_r_reads_r_after_both_incremen :
    let s := ({ base with r := 0x7E, iff2 := false }.placeBytes 0x0000 [0xED, 0x5F])
    stepsTo s { s with main := { s.main with f := 0x40 }, pc := 0x0002, r := 0x00, iCount := s.iCount - 9, elapsed := 9 } = true := by decide +kernel

/-- V-L23 (R218): LD I,A. -/
theorem test_L23_ld_i_a :
    let s := ({ base with main := { base.main with a := 0x3F } }.placeBytes 0x0000 [0xED, 0x47])
    stepsTo s { s with pc := 0x0002, i := 0x3F, r := 0x02, iCount := s.iCount - 9, elapsed := 9 } = true := by decide +kernel

/-! ### 16-bit loads, stack, exchanges (95_test_vectors.md) -/

/-- V-W1 (R240): LD SP,nn. -/
theorem test_W1_ld_sp_nn :
    let s := (base.placeBytes 0x0000 [0x31, 0x00, 0x80])
    stepsTo s { s with sp := 0x8000, pc := 0x0003, r := 0x01, iCount := s.iCount - 10, elapsed := 10 } = true := by decide +kernel

/-- V-W2 (R241): LD IY,nn. -/
theorem test_W2_ld_iy_nn :
    let s := (base.placeBytes 0x0000 [0xFD, 0x21, 0xCD, 0xAB])
    stepsTo s { s with iy := 0xABCD, pc := 0x0004, r := 0x02, iCount := s.iCount - 14, elapsed := 14 } = true := by decide +kernel

/-- V-W4 (R243): LD (nn),HL at 0xFFFF wraps the high byte to 0x0000. -/
theorem test_W4_ld_nn_hl_at_0xffff_wraps_the_high :
    let s := ({ base with main := { base.main with h := 0xA1, l := 0xB2 }, pc := 0x0100 }.placeBytes 0x0100 [0x22, 0xFF, 0xFF])
    stepsTo s (({ s with pc := 0x0103, r := 0x01, iCount := s.iCount - 16, elapsed := 16 }.placeBytes 0x0000 [0xA1]).placeBytes 0xFFFF [0xB2]) = true := by decide +kernel

/-- V-W5 (R244): LD BC,(nn) (ED 4B). -/
theorem test_W5_ld_bc_nn_ed_4b :
    let s := ((base.placeBytes 0x0000 [0xED, 0x4B, 0x10, 0x60]).placeBytes 0x6010 [0xCD, 0xAB])
    stepsTo s { s with main := { s.main with b := 0xAB, c := 0xCD }, pc := 0x0004, r := 0x02, iCount := s.iCount - 20, elapsed := 20 } = true := by decide +kernel

/-- V-W8 (R246): LD IX,(nn). -/
theorem test_W8_ld_ix_nn :
    let s := ((base.placeBytes 0x0000 [0xDD, 0x2A, 0x00, 0x60]).placeBytes 0x6000 [0x01, 0x80])
    stepsTo s { s with ix := 0x8001, pc := 0x0004, r := 0x02, iCount := s.iCount - 20, elapsed := 20 } = true := by decide +kernel

/-- V-W10 (R248): LD SP,HL. -/
theorem test_W10_ld_sp_hl :
    let s := ({ base with main := { base.main with h := 0x12, l := 0x34 } }.placeBytes 0x0000 [0xF9])
    stepsTo s { s with sp := 0x1234, pc := 0x0001, r := 0x01, iCount := s.iCount - 6, elapsed := 6 } = true := by decide +kernel

/-- V-W12 (R250): PUSH AF: high byte at SP-1. -/
theorem test_W12_push_af :
    let s := ({ base with main := { base.main with a := 0x12, f := 0xD7 } }.placeBytes 0x0000 [0xF5])
    stepsTo s ({ s with sp := 0xEFFE, pc := 0x0001, r := 0x01, iCount := s.iCount - 11, elapsed := 11 }.placeBytes 0xEFFE [0xD7, 0x12]) = true := by decide +kernel

/-- V-W13 (R250): PUSH BC with SP = 0x0001 wraps to 0xFFFF. -/
theorem test_W13_push_bc_with_sp_0x0001_wraps_to_0x :
    let s := ({ base with main := { base.main with b := 0xBE, c := 0xEF }, sp := 0x0001, pc := 0x0100 }.placeBytes 0x0100 [0xC5])
    stepsTo s (({ s with sp := 0xFFFF, pc := 0x0101, r := 0x01, iCount := s.iCount - 11, elapsed := 11 }.placeBytes 0x0000 [0xBE]).placeBytes 0xFFFF [0xEF]) = true := by decide +kernel

/-- V-W14 (R251): PUSH IX. -/
theorem test_W14_push_ix :
    let s := ({ base with ix := 0x1357 }.placeBytes 0x0000 [0xDD, 0xE5])
    stepsTo s ({ s with sp := 0xEFFE, pc := 0x0002, r := 0x02, iCount := s.iCount - 15, elapsed := 15 }.placeBytes 0xEFFE [0x57, 0x13]) = true := by decide +kernel

/-- V-W15 (R252): POP DE. -/
theorem test_W15_pop_de :
    let s := (({ base with sp := 0x8000 }.placeBytes 0x0000 [0xD1]).placeBytes 0x8000 [0x34, 0x12])
    stepsTo s { s with main := { s.main with d := 0x12, e := 0x34 }, sp := 0x8002, pc := 0x0001, r := 0x01, iCount := s.iCount - 10, elapsed := 10 } = true := by decide +kernel

/-- V-W16 (R252): POP AF with SP = 0xFFFF wraps. -/
theorem test_W16_pop_af_with_sp_0xffff_wraps :
    let s := ((({ base with sp := 0xFFFF, pc := 0x0100 }.placeBytes 0x0100 [0xF1]).placeBytes 0x0000 [0x01]).placeBytes 0xFFFF [0xFF])
    stepsTo s { s with main := { s.main with a := 0x01, f := 0xFF }, sp := 0x0001, pc := 0x0101, r := 0x01, iCount := s.iCount - 10, elapsed := 10 } = true := by decide +kernel

/-- V-W17 (R253): POP IY. -/
theorem test_W17_pop_iy :
    let s := (({ base with sp := 0x8000 }.placeBytes 0x0000 [0xFD, 0xE1]).placeBytes 0x8000 [0x78, 0x56])
    stepsTo s { s with iy := 0x5678, sp := 0x8002, pc := 0x0002, r := 0x02, iCount := s.iCount - 14, elapsed := 14 } = true := by decide +kernel

/-- V-W18 (R254): EX DE,HL. -/
theorem test_W18_ex_de_hl :
    let s := ({ base with main := { base.main with d := 0x12, e := 0x34, h := 0xAB, l := 0xCD } }.placeBytes 0x0000 [0xEB])
    stepsTo s { s with main := { s.main with d := 0xAB, e := 0xCD, h := 0x12, l := 0x34 }, pc := 0x0001, r := 0x01, iCount := s.iCount - 4, elapsed := 4 } = true := by decide +kernel

/-- V-W19 (R255): EX AF,AF'. -/
theorem test_W19_ex_af_af :
    let s := ({ base with main := { base.main with a := 0x01, f := 0x02 }, shadow := { base.shadow with a := 0x03, f := 0x04 } }.placeBytes 0x0000 [0x08])
    stepsTo s { s with main := { s.main with a := 0x03, f := 0x04 }, shadow := { s.shadow with a := 0x01, f := 0x02 }, pc := 0x0001, r := 0x01, iCount := s.iCount - 4, elapsed := 4 } = true := by decide +kernel

/-- V-W20 (R256): EXX swaps BC, DE, HL only. -/
theorem test_W20_exx_swaps_bc_de_hl_only :
    let s := ({ base with main := { base.main with b := 0x11, c := 0x11, d := 0x22, e := 0x22, h := 0x33, l := 0x33, a := 0x77 }, shadow := { base.shadow with b := 0xAA, c := 0xBB } }.placeBytes 0x0000 [0xD9])
    stepsTo s { s with main := { s.main with b := 0xAA, c := 0xBB, d := 0x00, e := 0x00, h := 0x00, l := 0x00 }, shadow := { s.shadow with b := 0x11, c := 0x11, d := 0x22, e := 0x22, h := 0x33, l := 0x33 }, pc := 0x0001, r := 0x01, iCount := s.iCount - 4, elapsed := 4 } = true := by decide +kernel

/-- V-W21 (R257): EX (SP),HL. -/
theorem test_W21_ex_sp_hl :
    let s := (({ base with main := { base.main with h := 0x12, l := 0x34 }, sp := 0x8000 }.placeBytes 0x0000 [0xE3]).placeBytes 0x8000 [0xCD, 0xAB])
    stepsTo s ({ s with main := { s.main with h := 0xAB, l := 0xCD }, pc := 0x0001, r := 0x01, iCount := s.iCount - 19, elapsed := 19 }.placeBytes 0x8000 [0x34, 0x12]) = true := by decide +kernel

/-- V-W22 (R258): EX (SP),IX. -/
theorem test_W22_ex_sp_ix :
    let s := (({ base with ix := 0x1234, sp := 0x8000 }.placeBytes 0x0000 [0xDD, 0xE3]).placeBytes 0x8000 [0xCD, 0xAB])
    stepsTo s ({ s with ix := 0xABCD, pc := 0x0002, r := 0x02, iCount := s.iCount - 23, elapsed := 23 }.placeBytes 0x8000 [0x34, 0x12]) = true := by decide +kernel

/-! ### Block instructions (95_test_vectors.md) -/

/-- V-B1 (R282): LDI with BC = 1: PV = 0; F.5/F.3 from A + v. -/
theorem test_B1_ldi_with_bc_1 :
    let s := (({ base with main := { base.main with h := 0x80, l := 0x00, d := 0x90, e := 0x00, b := 0x00, c := 0x01, a := 0x20, f := 0xC1 } }.placeBytes 0x0000 [0xED, 0xA0]).placeBytes 0x8000 [0x0A])
    stepsTo s ({ s with main := { s.main with f := 0xE9, c := 0x00, e := 0x01, l := 0x01 }, pc := 0x0002, r := 0x02, iCount := s.iCount - 16, elapsed := 16 }.placeBytes 0x9000 [0x0A]) = true := by decide +kernel

/-- V-B3 (R283): LDD. -/
theorem test_B3_ldd :
    let s := (({ base with main := { base.main with h := 0x80, l := 0x01, d := 0x90, e := 0x01, b := 0x00, c := 0x02 } }.placeBytes 0x0000 [0xED, 0xA8]).placeBytes 0x8001 [0x66])
    stepsTo s ({ s with main := { s.main with f := 0x24, c := 0x01, e := 0x00, l := 0x00 }, pc := 0x0002, r := 0x02, iCount := s.iCount - 16, elapsed := 16 }.placeBytes 0x9001 [0x66]) = true := by decide +kernel

/-- V-B4 (R284, R280, R281): LDIR element that repeats: PC back to the ED byte, cost 21. -/
theorem test_B4_ldir_element_that_repeats :
    let s := (({ base with main := { base.main with h := 0x80, l := 0x00, d := 0x90, e := 0x00, b := 0x00, c := 0x02 }, pc := 0x0100 }.placeBytes 0x0100 [0xED, 0xB0]).placeBytes 0x8000 [0x11])
    stepsToButF s ({ s with main := { s.main with c := 0x01, e := 0x01, l := 0x01 }, r := 0x02, iCount := s.iCount - 21, elapsed := 21, draws := 1 }.placeBytes 0x9000 [0x11]) = true := by decide +kernel

/-- V-B6 (R285): LDDR last element. -/
theorem test_B6_lddr_last_element :
    let s := (({ base with main := { base.main with h := 0x80, l := 0x00, d := 0x90, e := 0x00, b := 0x00, c := 0x01 } }.placeBytes 0x0000 [0xED, 0xB8]).placeBytes 0x8000 [0x22])
    stepsTo s ({ s with main := { s.main with f := 0x20, c := 0x00, d := 0x8F, e := 0xFF, h := 0x7F, l := 0xFF }, pc := 0x0002, r := 0x02, iCount := s.iCount - 16, elapsed := 16 }.placeBytes 0x9000 [0x22]) = true := by decide +kernel

/-- V-B7 (R286): CPI, match: Z = 1. -/
theorem test_B7_cpi_match :
    let s := (({ base with main := { base.main with h := 0x80, l := 0x00, b := 0x00, c := 0x05, a := 0x41 } }.placeBytes 0x0000 [0xED, 0xA1]).placeBytes 0x8000 [0x41])
    stepsTo s { s with main := { s.main with f := 0x46, c := 0x04, l := 0x01 }, pc := 0x0002, r := 0x02, iCount := s.iCount - 16, elapsed := 16 } = true := by decide +kernel

/-- V-B8 (R287): CPD, no match, BC becomes 0. -/
theorem test_B8_cpd_no_match_bc_becomes_0 :
    let s := (({ base with main := { base.main with h := 0x80, l := 0x00, b := 0x00, c := 0x01, a := 0x00, f := 0x01 } }.placeBytes 0x0000 [0xED, 0xA9]).placeBytes 0x8000 [0x01])
    stepsTo s { s with main := { s.main with f := 0xBB, c := 0x00, h := 0x7F, l := 0xFF }, pc := 0x0002, r := 0x02, iCount := s.iCount - 16, elapsed := 16 } = true := by decide +kernel

/-- V-B9 (R288): CPIR stops on a match even with BC ≠ 0. -/
theorem test_B9_cpir_stops_on_a_match_even_with_bc :
    let s := (({ base with main := { base.main with h := 0x80, l := 0x00, b := 0x00, c := 0x10, a := 0x41 }, pc := 0x0100 }.placeBytes 0x0100 [0xED, 0xB1]).placeBytes 0x8000 [0x41])
    stepsTo s { s with main := { s.main with f := 0x46, c := 0x0F, l := 0x01 }, pc := 0x0102, r := 0x02, iCount := s.iCount - 16, elapsed := 16 } = true := by decide +kernel

/-- V-B11 (R289): CPDR last element with no match. -/
theorem test_B11_cpdr_last_element_with_no_match :
    let s := (({ base with main := { base.main with h := 0x80, l := 0x00, b := 0x00, c := 0x01, a := 0x41 } }.placeBytes 0x0000 [0xED, 0xB9]).placeBytes 0x8000 [0x40])
    stepsTo s { s with main := { s.main with f := 0x02, c := 0x00, h := 0x7F, l := 0xFF }, pc := 0x0002, r := 0x02, iCount := s.iCount - 16, elapsed := 16 } = true := by decide +kernel

/-- V-B12 (R290): INI: port B:C uses B before the decrement. -/
theorem test_B12_ini :
    let s := ({ base with main := { base.main with h := 0x80, l := 0x00, b := 0x02, c := 0xFE }, portInput := [0x7F] }.placeBytes 0x0000 [0xED, 0xA2])
    stepsTo s ({ s with main := { s.main with f := 0x11, b := 0x01, l := 0x01 }, pc := 0x0002, r := 0x02, iCount := s.iCount - 16, elapsed := 16, portInput := [], events := [.ioRead 0x02FE 0x7F] }.placeBytes 0x8000 [0x7F]) = true := by decide +kernel

/-- V-B14 (R292, R281): INIR repeating element: F.5, F.3, H, PV draws. -/
theorem test_B14_inir_repeating_element :
    let s := ({ base with main := { base.main with h := 0x80, l := 0x00, b := 0x03, c := 0xFE }, pc := 0x0100, portInput := [0x01] }.placeBytes 0x0100 [0xED, 0xB2])
    stepsToButF s ({ s with main := { s.main with b := 0x02, l := 0x01 }, r := 0x02, iCount := s.iCount - 21, elapsed := 21, portInput := [], events := [.ioRead 0x03FE 0x01], draws := 1 }.placeBytes 0x8000 [0x01]) = true := by decide +kernel

/-- V-B15 (R293): INDR last element. -/
theorem test_B15_indr_last_element :
    let s := ({ base with main := { base.main with h := 0x80, l := 0x00, b := 0x01, c := 0x10 }, portInput := [0xF0] }.placeBytes 0x0000 [0xED, 0xBA])
    stepsTo s ({ s with main := { s.main with f := 0x42, b := 0x00, h := 0x7F, l := 0xFF }, pc := 0x0002, r := 0x02, iCount := s.iCount - 16, elapsed := 16, portInput := [], events := [.ioRead 0x0110 0xF0] }.placeBytes 0x8000 [0xF0]) = true := by decide +kernel

/-- V-B16 (R294): OUTI: port uses B after the decrement. -/
theorem test_B16_outi :
    let s := (({ base with main := { base.main with h := 0x80, l := 0xFF, b := 0x02, c := 0x10 } }.placeBytes 0x0000 [0xED, 0xA3]).placeBytes 0x80FF [0x01])
    stepsTo s { s with main := { s.main with f := 0x04, b := 0x01, h := 0x81, l := 0x00 }, pc := 0x0002, r := 0x02, iCount := s.iCount - 16, elapsed := 16, events := [.ioWrite 0x0110 0x01] } = true := by decide +kernel

/-- V-B18 (R296): OTIR last element. -/
theorem test_B18_otir_last_element :
    let s := (({ base with main := { base.main with h := 0x80, l := 0x00, b := 0x01, c := 0x20 } }.placeBytes 0x0000 [0xED, 0xB3]).placeBytes 0x8000 [0x42])
    stepsTo s { s with main := { s.main with f := 0x44, b := 0x00, l := 0x01 }, pc := 0x0002, r := 0x02, iCount := s.iCount - 16, elapsed := 16, events := [.ioWrite 0x0020 0x42] } = true := by decide +kernel

/-- V-B19 (R297, R281): OTDR repeating element. -/
theorem test_B19_otdr_repeating_element :
    let s := (({ base with main := { base.main with h := 0x80, l := 0x00, b := 0x02, c := 0x20 }, pc := 0x0100 }.placeBytes 0x0100 [0xED, 0xBB]).placeBytes 0x8000 [0x42])
    stepsToButF s { s with main := { s.main with b := 0x01, h := 0x7F, l := 0xFF }, r := 0x02, iCount := s.iCount - 21, elapsed := 21, events := [.ioWrite 0x0120 0x42], draws := 1 } = true := by decide +kernel

/-! ### 8-bit arithmetic (95_test_vectors.md) -/

/-- V-A1 (R321): ADD A,B: 0x7F + 0x01 overflows. -/
theorem test_A1_add_a_b :
    let s := ({ base with main := { base.main with a := 0x7F, b := 0x01 } }.placeBytes 0x0000 [0x80])
    stepsTo s { s with main := { s.main with a := 0x80, f := 0x94 }, pc := 0x0001, r := 0x01, iCount := s.iCount - 4, elapsed := 4 } = true := by decide +kernel

/-- V-A5 (R322): ADC A,(HL): 0x0E + 0x01 + carry gives half-carry. -/
theorem test_A5_adc_a_hl :
    let s := (({ base with main := { base.main with a := 0x0E, h := 0x80, l := 0x00, f := 0x01 } }.placeBytes 0x0000 [0x8E]).placeBytes 0x8000 [0x01])
    stepsTo s { s with main := { s.main with a := 0x10, f := 0x10 }, pc := 0x0001, r := 0x01, iCount := s.iCount - 7, elapsed := 7 } = true := by decide +kernel

/-- V-A6 (R323): SUB B: 0x80 - 0x01 overflows. -/
theorem test_A6_sub_b :
    let s := ({ base with main := { base.main with a := 0x80, b := 0x01 } }.placeBytes 0x0000 [0x90])
    stepsTo s { s with main := { s.main with a := 0x7F, f := 0x3E }, pc := 0x0001, r := 0x01, iCount := s.iCount - 4, elapsed := 4 } = true := by decide +kernel

/-- V-A9 (R324): SBC A,(IX+d). -/
theorem test_A9_sbc_a_ix_d :
    let s := (({ base with main := { base.main with a := 0x10, f := 0x01 }, ix := 0x2000 }.placeBytes 0x0000 [0xDD, 0x9E, 0x03]).placeBytes 0x2003 [0x05])
    stepsTo s { s with main := { s.main with a := 0x0A, f := 0x1A }, pc := 0x0003, r := 0x02, iCount := s.iCount - 19, elapsed := 19 } = true := by decide +kernel

/-- V-A10 (R325): AND n: H = 1, parity. -/
theorem test_A10_and_n :
    let s := ({ base with main := { base.main with a := 0x3C, f := 0xFF } }.placeBytes 0x0000 [0xE6, 0x0F])
    stepsTo s { s with main := { s.main with a := 0x0C, f := 0x1C }, pc := 0x0002, r := 0x01, iCount := s.iCount - 7, elapsed := 7 } = true := by decide +kernel

/-- V-A11 (R326): XOR A: zero, parity even. -/
theorem test_A11_xor_a :
    let s := ({ base with main := { base.main with a := 0x5A, f := 0xFF } }.placeBytes 0x0000 [0xAF])
    stepsTo s { s with main := { s.main with a := 0x00, f := 0x44 }, pc := 0x0001, r := 0x01, iCount := s.iCount - 4, elapsed := 4 } = true := by decide +kernel

/-- V-A12 (R327): OR C. -/
theorem test_A12_or_c :
    let s := ({ base with main := { base.main with a := 0x80, c := 0x28 } }.placeBytes 0x0000 [0xB1])
    stepsTo s { s with main := { s.main with a := 0xA8, f := 0xA8 }, pc := 0x0001, r := 0x01, iCount := s.iCount - 4, elapsed := 4 } = true := by decide +kernel

/-- V-A13 (R328): CP n: A unchanged, F.5/F.3 from the operand. -/
theorem test_A13_cp_n :
    let s := ({ base with main := { base.main with a := 0x30 } }.placeBytes 0x0000 [0xFE, 0x28])
    stepsTo s { s with main := { s.main with f := 0x3A }, pc := 0x0002, r := 0x01, iCount := s.iCount - 7, elapsed := 7 } = true := by decide +kernel

/-- V-A15 (R328): CP IXL (undocumented): F.5/F.3 from IXL. -/
theorem test_A15_cp_ixl :
    let s := ({ base with main := { base.main with a := 0x00 }, ix := 0x0028 }.placeBytes 0x0000 [0xDD, 0xBD])
    stepsTo s { s with main := { s.main with f := 0xBB }, pc := 0x0002, r := 0x02, iCount := s.iCount - 8, elapsed := 8 } = true := by decide +kernel

/-- V-A18 (R329): INC IYH (undocumented). -/
theorem test_A18_inc_iyh :
    let s := ({ base with iy := 0x0F00 }.placeBytes 0x0000 [0xFD, 0x24])
    stepsTo s { s with main := { s.main with f := 0x10 }, iy := 0x1000, pc := 0x0002, r := 0x02, iCount := s.iCount - 8, elapsed := 8 } = true := by decide +kernel

/-- V-A20 (R330): INC (IX+d). -/
theorem test_A20_inc_ix_d :
    let s := (({ base with ix := 0x2002 }.placeBytes 0x0000 [0xDD, 0x34, 0xFE]).placeBytes 0x2000 [0x0F])
    stepsTo s ({ s with main := { s.main with f := 0x10 }, pc := 0x0003, r := 0x02, iCount := s.iCount - 23, elapsed := 23 }.placeBytes 0x2000 [0x10]) = true := by decide +kernel

/-- V-A23 (R331): DEC IXL (undocumented): 0x00 to 0xFF. -/
theorem test_A23_dec_ixl :
    let s := ({ base with ix := 0x1200 }.placeBytes 0x0000 [0xDD, 0x2D])
    stepsTo s { s with main := { s.main with f := 0xBA }, ix := 0x12FF, pc := 0x0002, r := 0x02, iCount := s.iCount - 8, elapsed := 8 } = true := by decide +kernel

/-- V-A25 (R332): DEC (IY+d). -/
theorem test_A25_dec_iy_d :
    let s := (({ base with iy := 0x3000 }.placeBytes 0x0000 [0xFD, 0x35, 0x01]).placeBytes 0x3001 [0x01])
    stepsTo s ({ s with main := { s.main with f := 0x42 }, pc := 0x0003, r := 0x02, iCount := s.iCount - 23, elapsed := 23 }.placeBytes 0x3001 [0x00]) = true := by decide +kernel

/-- V-A27 (R333): DAA after ADD 0x99 + 0x01 = 0x9A: 0x00 with carry. -/
theorem test_A27_daa_after_add_0x99_0x01_0x9a :
    let s := ({ base with main := { base.main with a := 0x9A, f := 0x00 } }.placeBytes 0x0000 [0x27])
    stepsTo s { s with main := { s.main with a := 0x00, f := 0x55 }, pc := 0x0001, r := 0x01, iCount := s.iCount - 4, elapsed := 4 } = true := by decide +kernel

/-- V-A28 (R333): DAA after SUB 0x10 - 0x01 = 0x0F (N = 1, H = 1). -/
theorem test_A28_daa_after_sub_0x10_0x01_0x0f_n_1_h :
    let s := ({ base with main := { base.main with a := 0x0F, f := 0x12 } }.placeBytes 0x0000 [0x27])
    stepsTo s { s with main := { s.main with a := 0x09, f := 0x0E }, pc := 0x0001, r := 0x01, iCount := s.iCount - 4, elapsed := 4 } = true := by decide +kernel

/-- V-A30 (R334): CPL. -/
theorem test_A30_cpl :
    let s := ({ base with main := { base.main with a := 0x5A, f := 0x00 } }.placeBytes 0x0000 [0x2F])
    stepsTo s { s with main := { s.main with a := 0xA5, f := 0x32 }, pc := 0x0001, r := 0x01, iCount := s.iCount - 4, elapsed := 4 } = true := by decide +kernel

/-- V-A33 (R335): NEG by duplicate ED 7C. -/
theorem test_A33_neg_by_duplicate_ed_7c :
    let s := ({ base with main := { base.main with a := 0x01 } }.placeBytes 0x0000 [0xED, 0x7C])
    stepsTo s { s with main := { s.main with a := 0xFF, f := 0xBB }, pc := 0x0002, r := 0x02, iCount := s.iCount - 8, elapsed := 8 } = true := by decide +kernel

/-- V-A34 (R336): CCF with C = 1: H = old C, C = 0. -/
theorem test_A34_ccf_with_c_1 :
    let s := ({ base with main := { base.main with f := 0x01, a := 0xFF } }.placeBytes 0x0000 [0x3F])
    stepsToButF s { s with pc := 0x0001, r := 0x01, iCount := s.iCount - 4, elapsed := 4, draws := 1 } = true := by decide +kernel

/-- V-A35 (R337): SCF. -/
theorem test_A35_scf :
    let s := ({ base with main := { base.main with f := 0xC2, a := 0x00 } }.placeBytes 0x0000 [0x37])
    stepsToButF s { s with pc := 0x0001, r := 0x01, iCount := s.iCount - 4, elapsed := 4, draws := 1 } = true := by decide +kernel

/-! ### 16-bit arithmetic (95_test_vectors.md) -/

/-- V-X3 (R370): ADD HL,SP: F.5/F.3 from the high byte of the result. -/
theorem test_X3_add_hl_sp :
    let s := ({ base with main := { base.main with h := 0x20, l := 0x00 }, sp := 0x0800 }.placeBytes 0x0000 [0x39])
    stepsTo s { s with main := { s.main with f := 0x28, h := 0x28 }, pc := 0x0001, r := 0x01, iCount := s.iCount - 11, elapsed := 11 } = true := by decide +kernel

/-- V-X5 (R371): ADD IY,BC. -/
theorem test_X5_add_iy_bc :
    let s := ({ base with main := { base.main with b := 0x00, c := 0x01 }, iy := 0xFFFF }.placeBytes 0x0000 [0xFD, 0x09])
    stepsTo s { s with main := { s.main with f := 0x11 }, iy := 0x0000, pc := 0x0002, r := 0x02, iCount := s.iCount - 15, elapsed := 15 } = true := by decide +kernel

/-- V-X6 (R372): ADC HL,BC: 0xFFFF + 0 + carry = 0, Z and C. -/
theorem test_X6_adc_hl_bc :
    let s := ({ base with main := { base.main with h := 0xFF, l := 0xFF, b := 0x00, c := 0x00, f := 0x01 } }.placeBytes 0x0000 [0xED, 0x4A])
    stepsTo s { s with main := { s.main with f := 0x51, h := 0x00, l := 0x00 }, pc := 0x0002, r := 0x02, iCount := s.iCount - 15, elapsed := 15 } = true := by decide +kernel

/-- V-X8 (R373): SBC HL,DE: 0x8000 - 0x0001 overflows. -/
theorem test_X8_sbc_hl_de :
    let s := ({ base with main := { base.main with h := 0x80, l := 0x00, d := 0x00, e := 0x01 } }.placeBytes 0x0000 [0xED, 0x52])
    stepsTo s { s with main := { s.main with f := 0x3E, h := 0x7F, l := 0xFF }, pc := 0x0002, r := 0x02, iCount := s.iCount - 15, elapsed := 15 } = true := by decide +kernel

/-- V-X10 (R374): INC SP wraps, flags unchanged. -/
theorem test_X10_inc_sp_wraps_flags_unchanged :
    let s := ({ base with main := { base.main with f := 0xFF }, sp := 0xFFFF }.placeBytes 0x0000 [0x33])
    stepsTo s { s with sp := 0x0000, pc := 0x0001, r := 0x01, iCount := s.iCount - 6, elapsed := 6 } = true := by decide +kernel

/-- V-X11 (R375): DEC BC from 0 wraps, flags unchanged. -/
theorem test_X11_dec_bc_from_0_wraps_flags_unchange :
    let s := ({ base with main := { base.main with b := 0x00, c := 0x00, f := 0x00 } }.placeBytes 0x0000 [0x0B])
    stepsTo s { s with main := { s.main with b := 0xFF, c := 0xFF }, pc := 0x0001, r := 0x01, iCount := s.iCount - 6, elapsed := 6 } = true := by decide +kernel

/-- V-X12 (R374): INC IX. -/
theorem test_X12_inc_ix :
    let s := ({ base with ix := 0x00FF }.placeBytes 0x0000 [0xDD, 0x23])
    stepsTo s { s with ix := 0x0100, pc := 0x0002, r := 0x02, iCount := s.iCount - 10, elapsed := 10 } = true := by decide +kernel

/-- V-X13 (R375): DEC IY. -/
theorem test_X13_dec_iy :
    let s := ({ base with iy := 0x0000 }.placeBytes 0x0000 [0xFD, 0x2B])
    stepsTo s { s with iy := 0xFFFF, pc := 0x0002, r := 0x02, iCount := s.iCount - 10, elapsed := 10 } = true := by decide +kernel

/-! ### Rotates, shifts, bits (95_test_vectors.md) -/

/-- V-T1 (R390): RLCA: bit 7 to C and bit 0; S, Z, PV kept. -/
theorem test_T1_rlca :
    let s := ({ base with main := { base.main with a := 0x81, f := 0xC4 } }.placeBytes 0x0000 [0x07])
    stepsTo s { s with main := { s.main with a := 0x03, f := 0xC5 }, pc := 0x0001, r := 0x01, iCount := s.iCount - 4, elapsed := 4 } = true := by decide +kernel

/-- V-T2 (R391): RRCA. -/
theorem test_T2_rrca :
    let s := ({ base with main := { base.main with a := 0x01 } }.placeBytes 0x0000 [0x0F])
    stepsTo s { s with main := { s.main with a := 0x80, f := 0x01 }, pc := 0x0001, r := 0x01, iCount := s.iCount - 4, elapsed := 4 } = true := by decide +kernel

/-- V-T4 (R393): RRA through carry. -/
theorem test_T4_rra_through_carry :
    let s := ({ base with main := { base.main with a := 0x01, f := 0x01 } }.placeBytes 0x0000 [0x1F])
    stepsTo s { s with main := { s.main with a := 0x80 }, pc := 0x0001, r := 0x01, iCount := s.iCount - 4, elapsed := 4 } = true := by decide +kernel

/-- V-T5 (R395): RLC B. -/
theorem test_T5_rlc_b :
    let s := ({ base with main := { base.main with b := 0x80 } }.placeBytes 0x0000 [0xCB, 0x00])
    stepsTo s { s with main := { s.main with f := 0x01, b := 0x01 }, pc := 0x0002, r := 0x02, iCount := s.iCount - 8, elapsed := 8 } = true := by decide +kernel

/-- V-T6 (R396): RRC (HL). -/
theorem test_T6_rrc_hl :
    let s := (({ base with main := { base.main with h := 0x80, l := 0x00 } }.placeBytes 0x0000 [0xCB, 0x0E]).placeBytes 0x8000 [0x01])
    stepsTo s ({ s with main := { s.main with f := 0x81 }, pc := 0x0002, r := 0x02, iCount := s.iCount - 15, elapsed := 15 }.placeBytes 0x8000 [0x80]) = true := by decide +kernel

/-- V-T7 (R397): RL C with carry in. -/
theorem test_T7_rl_c_with_carry_in :
    let s := ({ base with main := { base.main with c := 0x00, f := 0x01 } }.placeBytes 0x0000 [0xCB, 0x11])
    stepsTo s { s with main := { s.main with f := 0x00, c := 0x01 }, pc := 0x0002, r := 0x02, iCount := s.iCount - 8, elapsed := 8 } = true := by decide +kernel

/-- V-T8 (R398): RR (HL). -/
theorem test_T8_rr_hl :
    let s := (({ base with main := { base.main with h := 0x80, l := 0x00, f := 0x00 } }.placeBytes 0x0000 [0xCB, 0x1E]).placeBytes 0x8000 [0x01])
    stepsTo s ({ s with main := { s.main with f := 0x45 }, pc := 0x0002, r := 0x02, iCount := s.iCount - 15, elapsed := 15 }.placeBytes 0x8000 [0x00]) = true := by decide +kernel

/-- V-T9 (R399): SLA D. -/
theorem test_T9_sla_d :
    let s := ({ base with main := { base.main with d := 0xC0 } }.placeBytes 0x0000 [0xCB, 0x22])
    stepsTo s { s with main := { s.main with f := 0x81, d := 0x80 }, pc := 0x0002, r := 0x02, iCount := s.iCount - 8, elapsed := 8 } = true := by decide +kernel

/-- V-T10 (R400): SRA E keeps bit 7. -/
theorem test_T10_sra_e_keeps_bit_7 :
    let s := ({ base with main := { base.main with e := 0x81 } }.placeBytes 0x0000 [0xCB, 0x2B])
    stepsTo s { s with main := { s.main with f := 0x85, e := 0xC0 }, pc := 0x0002, r := 0x02, iCount := s.iCount - 8, elapsed := 8 } = true := by decide +kernel

/-- V-T11 (R401): SLL H (undocumented) sets bit 0. -/
theorem test_T11_sll_h_sets_bit_0 :
    let s := ({ base with main := { base.main with h := 0x80 } }.placeBytes 0x0000 [0xCB, 0x34])
    stepsTo s { s with main := { s.main with f := 0x01, h := 0x01 }, pc := 0x0002, r := 0x02, iCount := s.iCount - 8, elapsed := 8 } = true := by decide +kernel

/-- V-T12 (R402): SRL A: 0x01 to 0, Z and C. -/
theorem test_T12_srl_a :
    let s := ({ base with main := { base.main with a := 0x01 } }.placeBytes 0x0000 [0xCB, 0x3F])
    stepsTo s { s with main := { s.main with a := 0x00, f := 0x45 }, pc := 0x0002, r := 0x02, iCount := s.iCount - 8, elapsed := 8 } = true := by decide +kernel

/-- V-T13 (R403): RLD. -/
theorem test_T13_rld :
    let s := (({ base with main := { base.main with a := 0x12, h := 0x80, l := 0x00 } }.placeBytes 0x0000 [0xED, 0x6F]).placeBytes 0x8000 [0x34])
    stepsTo s ({ s with main := { s.main with a := 0x13 }, pc := 0x0002, r := 0x02, iCount := s.iCount - 18, elapsed := 18 }.placeBytes 0x8000 [0x42]) = true := by decide +kernel

/-- V-T14 (R404): RRD. -/
theorem test_T14_rrd :
    let s := (({ base with main := { base.main with a := 0x12, h := 0x80, l := 0x00 } }.placeBytes 0x0000 [0xED, 0x67]).placeBytes 0x8000 [0x34])
    stepsTo s ({ s with main := { s.main with a := 0x14, f := 0x04 }, pc := 0x0002, r := 0x02, iCount := s.iCount - 18, elapsed := 18 }.placeBytes 0x8000 [0x23]) = true := by decide +kernel

/-- V-T15 (R405): BIT 7,H with bit set: S = 1. -/
theorem test_T15_bit_7_h_with_bit_set :
    let s := ({ base with main := { base.main with h := 0x80, f := 0x01 } }.placeBytes 0x0000 [0xCB, 0x7C])
    stepsTo s { s with main := { s.main with f := 0x91 }, pc := 0x0002, r := 0x02, iCount := s.iCount - 8, elapsed := 8 } = true := by decide +kernel

/-- V-T17 (R406): BIT 3,(HL): F.5/F.3 draws. -/
theorem test_T17_bit_3_hl :
    let s := (({ base with main := { base.main with h := 0x80, l := 0x00 } }.placeBytes 0x0000 [0xCB, 0x5E]).placeBytes 0x8000 [0x08])
    stepsToButF s { s with pc := 0x0002, r := 0x02, iCount := s.iCount - 12, elapsed := 12, draws := 1 } = true := by decide +kernel

/-- V-T19 (R407): DDCB BIT with a register field other than 6 (DD CB d 48) is BIT 1,(IX+d). -/
theorem test_T19_ddcb_bit_with_a_register_field_oth :
    let s := (({ base with ix := 0x2800 }.placeBytes 0x0000 [0xDD, 0xCB, 0x10, 0x48]).placeBytes 0x2810 [0x02])
    stepsTo s { s with main := { s.main with f := 0x38 }, pc := 0x0004, r := 0x02, iCount := s.iCount - 20, elapsed := 20 } = true := by decide +kernel

/-- V-T22 (R408): RES 0,(IX+d),B (DDCB register copy, undocumented). -/
theorem test_T22_res_0_ix_d_b_ddcb_register_copy_un :
    let s := (({ base with ix := 0x2000 }.placeBytes 0x0000 [0xDD, 0xCB, 0x01, 0x80]).placeBytes 0x2001 [0xFF])
    stepsTo s ({ s with main := { s.main with b := 0xFE }, pc := 0x0004, r := 0x02, iCount := s.iCount - 23, elapsed := 23 }.placeBytes 0x2001 [0xFE]) = true := by decide +kernel

/-- V-T23 (R409): SET 4,(IY+d). -/
theorem test_T23_set_4_iy_d :
    let s := (({ base with iy := 0x2001 }.placeBytes 0x0000 [0xFD, 0xCB, 0xFF, 0xE6]).placeBytes 0x2000 [0x00])
    stepsTo s ({ s with pc := 0x0004, r := 0x02, iCount := s.iCount - 23, elapsed := 23 }.placeBytes 0x2000 [0x10]) = true := by decide +kernel

/-- V-T24 (R399): SLA (IY+d),C (DDCB register copy). -/
theorem test_T24_sla_iy_d_c_ddcb_register_copy :
    let s := (({ base with iy := 0x2000 }.placeBytes 0x0000 [0xFD, 0xCB, 0x00, 0x21]).placeBytes 0x2000 [0x81])
    stepsTo s ({ s with main := { s.main with f := 0x01, c := 0x02 }, pc := 0x0004, r := 0x02, iCount := s.iCount - 23, elapsed := 23 }.placeBytes 0x2000 [0x02]) = true := by decide +kernel

/-! ### Jumps, calls, returns (95_test_vectors.md) -/

/-- V-J1 (R441): JP nn. -/
theorem test_J1_jp_nn :
    let s := (base.placeBytes 0x0000 [0xC3, 0x34, 0x12])
    stepsTo s { s with pc := 0x1234, r := 0x01, iCount := s.iCount - 10, elapsed := 10 } = true := by decide +kernel

/-- V-J2 (R442): JP NZ,nn not taken. -/
theorem test_J2_jp_nz_nn_not_taken :
    let s := ({ base with main := { base.main with f := 0x40 } }.placeBytes 0x0000 [0xC2, 0x34, 0x12])
    stepsTo s { s with pc := 0x0003, r := 0x01, iCount := s.iCount - 10, elapsed := 10 } = true := by decide +kernel

/-- V-J4 (R442): JP M,nn taken. -/
theorem test_J4_jp_m_nn_taken :
    let s := ({ base with main := { base.main with f := 0x80 } }.placeBytes 0x0000 [0xFA, 0x34, 0x12])
    stepsTo s { s with pc := 0x1234, r := 0x01, iCount := s.iCount - 10, elapsed := 10 } = true := by decide +kernel

/-- V-J6 (R443): JR wraps past 0xFFFF. -/
theorem test_J6_jr_wraps_past_0xffff :
    let s := ({ base with pc := 0xFFF0 }.placeBytes 0xFFF0 [0x18, 0x7F])
    stepsTo s { s with pc := 0x0071, r := 0x01, iCount := s.iCount - 12, elapsed := 12 } = true := by decide +kernel

/-- V-J7 (R444): JR NC,e taken. -/
theorem test_J7_jr_nc_e_taken :
    let s := ({ base with main := { base.main with f := 0x00 } }.placeBytes 0x0000 [0x30, 0x10])
    stepsTo s { s with pc := 0x0012, r := 0x01, iCount := s.iCount - 12, elapsed := 12 } = true := by decide +kernel

/-- V-J9 (R445): JP (HL) does not read memory. -/
theorem test_J9_jp_hl_does_not_read_memory :
    let s := ({ base with main := { base.main with h := 0x80, l := 0x00 } }.placeBytes 0x0000 [0xE9])
    stepsTo s { s with pc := 0x8000, r := 0x01, iCount := s.iCount - 4, elapsed := 4 } = true := by decide +kernel

/-- V-J10 (R445): JP (IY). -/
theorem test_J10_jp_iy :
    let s := ({ base with iy := 0x4000 }.placeBytes 0x0000 [0xFD, 0xE9])
    stepsTo s { s with pc := 0x4000, r := 0x02, iCount := s.iCount - 8, elapsed := 8 } = true := by decide +kernel

/-- V-J12 (R446): DJNZ with B = 0: B = 0xFF, taken. -/
theorem test_J12_djnz_with_b_0 :
    let s := ({ base with main := { base.main with b := 0x00 }, pc := 0x0100 }.placeBytes 0x0100 [0x10, 0xFE])
    stepsTo s { s with main := { s.main with b := 0xFF }, r := 0x01, iCount := s.iCount - 13, elapsed := 13 } = true := by decide +kernel

/-- V-J13 (R447): CALL nn pushes the address of the next instruction. -/
theorem test_J13_call_nn_pushes_the_address_of_the :
    let s := ({ base with pc := 0x0100 }.placeBytes 0x0100 [0xCD, 0x00, 0x20])
    stepsTo s ({ s with sp := 0xEFFE, pc := 0x2000, r := 0x01, iCount := s.iCount - 17, elapsed := 17 }.placeBytes 0xEFFE [0x03, 0x01]) = true := by decide +kernel

/-- V-J14 (R448): CALL C,nn not taken. -/
theorem test_J14_call_c_nn_not_taken :
    let s := ({ base with main := { base.main with f := 0x00 }, pc := 0x0100 }.placeBytes 0x0100 [0xDC, 0x00, 0x20])
    stepsTo s { s with pc := 0x0103, r := 0x01, iCount := s.iCount - 10, elapsed := 10 } = true := by decide +kernel

/-- V-J15 (R448): CALL PO,nn taken. -/
theorem test_J15_call_po_nn_taken :
    let s := ({ base with main := { base.main with f := 0x00 }, pc := 0x0100 }.placeBytes 0x0100 [0xE4, 0x00, 0x20])
    stepsTo s ({ s with sp := 0xEFFE, pc := 0x2000, r := 0x01, iCount := s.iCount - 17, elapsed := 17 }.placeBytes 0xEFFE [0x03, 0x01]) = true := by decide +kernel

/-- V-J16 (R449): RET. -/
theorem test_J16_ret :
    let s := (({ base with sp := 0xEFFE, pc := 0x2000 }.placeBytes 0x2000 [0xC9]).placeBytes 0xEFFE [0x03, 0x01])
    stepsTo s { s with sp := 0xF000, pc := 0x0103, r := 0x01, iCount := s.iCount - 10, elapsed := 10 } = true := by decide +kernel

/-- V-J17 (R450): RET P not taken. -/
theorem test_J17_ret_p_not_taken :
    let s := (({ base with main := { base.main with f := 0x80 }, sp := 0xEFFE, pc := 0x2000 }.placeBytes 0x2000 [0xF0]).placeBytes 0xEFFE [0x03, 0x01])
    stepsTo s { s with pc := 0x2001, r := 0x01, iCount := s.iCount - 5, elapsed := 5 } = true := by decide +kernel

/-- V-J18 (R450): RET NZ taken. -/
theorem test_J18_ret_nz_taken :
    let s := (({ base with main := { base.main with f := 0x00 }, sp := 0xEFFE, pc := 0x2000 }.placeBytes 0x2000 [0xC0]).placeBytes 0xEFFE [0x03, 0x01])
    stepsTo s { s with sp := 0xF000, pc := 0x0103, r := 0x01, iCount := s.iCount - 11, elapsed := 11 } = true := by decide +kernel

/-- V-J19 (R451): RETI copies IFF2 into IFF1. -/
theorem test_J19_reti_copies_iff2_into_iff1 :
    let s := (({ base with sp := 0xEFFE, iff1 := false, iff2 := true, pc := 0x2000 }.placeBytes 0x2000 [0xED, 0x4D]).placeBytes 0xEFFE [0x03, 0x01])
    stepsTo s { s with sp := 0xF000, pc := 0x0103, r := 0x02, iff1 := true, iCount := s.iCount - 14, elapsed := 14 } = true := by decide +kernel

/-- V-J20 (R452): RETN copies IFF2 into IFF1. -/
theorem test_J20_retn_copies_iff2_into_iff1 :
    let s := (({ base with sp := 0xEFFE, iff1 := true, iff2 := false, pc := 0x2000 }.placeBytes 0x2000 [0xED, 0x45]).placeBytes 0xEFFE [0x03, 0x01])
    stepsTo s { s with sp := 0xF000, pc := 0x0103, r := 0x02, iff1 := false, iCount := s.iCount - 14, elapsed := 14 } = true := by decide +kernel

/-- V-J22 (R453): RST 38H. -/
theorem test_J22_rst_38h :
    let s := ({ base with pc := 0x1234 }.placeBytes 0x1234 [0xFF])
    stepsTo s ({ s with sp := 0xEFFE, pc := 0x0038, r := 0x01, iCount := s.iCount - 11, elapsed := 11 }.placeBytes 0xEFFE [0x35, 0x12]) = true := by decide +kernel

/-! ### Ports and CPU control (95_test_vectors.md) -/

/-- V-I1 (R480): IN A,(n): port A:n, flags unchanged. -/
theorem test_I1_in_a_n :
    let s := ({ base with main := { base.main with a := 0x7F, f := 0x00 }, portInput := [0xBF] }.placeBytes 0x0000 [0xDB, 0xFE])
    stepsTo s { s with main := { s.main with a := 0xBF }, pc := 0x0002, r := 0x01, iCount := s.iCount - 11, elapsed := 11, portInput := [], events := [.ioRead 0x7FFE 0xBF] } = true := by decide +kernel

/-- V-I2 (R481): IN B,(C): flags from the byte. -/
theorem test_I2_in_b_c :
    let s := ({ base with main := { base.main with b := 0x12, c := 0xFE, f := 0x01 }, portInput := [0x00] }.placeBytes 0x0000 [0xED, 0x40])
    stepsTo s { s with main := { s.main with f := 0x45, b := 0x00 }, pc := 0x0002, r := 0x02, iCount := s.iCount - 12, elapsed := 12, portInput := [], events := [.ioRead 0x12FE 0x00] } = true := by decide +kernel

/-- V-I4 (R482): IN F,(C): flags set, no register written. -/
theorem test_I4_in_f_c :
    let s := ({ base with main := { base.main with b := 0x12, c := 0xFE }, portInput := [0x28] }.placeBytes 0x0000 [0xED, 0x70])
    stepsTo s { s with main := { s.main with f := 0x2C }, pc := 0x0002, r := 0x02, iCount := s.iCount - 12, elapsed := 12, portInput := [], events := [.ioRead 0x12FE 0x28] } = true := by decide +kernel

/-- V-I5 (R483): OUT (n),A: port A:n. -/
theorem test_I5_out_n_a :
    let s := ({ base with main := { base.main with a := 0x07 } }.placeBytes 0x0000 [0xD3, 0xFE])
    stepsTo s { s with pc := 0x0002, r := 0x01, iCount := s.iCount - 11, elapsed := 11, events := [.ioWrite 0x07FE 0x07] } = true := by decide +kernel

/-- V-I6 (R484): OUT (C),L. -/
theorem test_I6_out_c_l :
    let s := ({ base with main := { base.main with b := 0x12, c := 0x34, l := 0x99 } }.placeBytes 0x0000 [0xED, 0x69])
    stepsTo s { s with pc := 0x0002, r := 0x02, iCount := s.iCount - 12, elapsed := 12, events := [.ioWrite 0x1234 0x99] } = true := by decide +kernel

/-- V-I7 (R485): OUT (C),0 writes OUTC0_VALUE = 0x00. -/
theorem test_I7_out_c_0_writes_outc0_value_0x00 :
    let s := ({ base with main := { base.main with b := 0x00, c := 0xFE } }.placeBytes 0x0000 [0xED, 0x71])
    stepsTo s { s with pc := 0x0002, r := 0x02, iCount := s.iCount - 12, elapsed := 12, events := [.ioWrite 0x00FE 0x00] } = true := by decide +kernel

/-- V-I8 (R488): DI clears IFF1 and IFF2. -/
theorem test_I8_di_clears_iff1_and_iff2 :
    let s := ({ base with iff1 := true, iff2 := true }.placeBytes 0x0000 [0xF3])
    stepsTo s { s with pc := 0x0001, r := 0x01, iff1 := false, iff2 := false, iCount := s.iCount - 4, elapsed := 4 } = true := by decide +kernel

/-- V-I9 (R489): EI sets IFF1, IFF2 and intInhibit. -/
theorem test_I9_ei_sets_iff1_iff2_and_intinhibit :
    let s := (base.placeBytes 0x0000 [0xFB])
    stepsTo s { s with pc := 0x0001, r := 0x01, iff1 := true, iff2 := true, intInhibit := true, iCount := s.iCount - 4, elapsed := 4 } = true := by decide +kernel

/-- V-I12 (R491): IM 1 (ED 56). -/
theorem test_I12_im_1_ed_56 :
    let s := (base.placeBytes 0x0000 [0xED, 0x56])
    stepsTo s { s with pc := 0x0002, r := 0x02, im := .im1, iCount := s.iCount - 8, elapsed := 8 } = true := by decide +kernel

/-- V-I14 (R492): IM 2 by duplicate ED 7E. -/
theorem test_I14_im_2_by_duplicate_ed_7e :
    let s := (base.placeBytes 0x0000 [0xED, 0x7E])
    stepsTo s { s with pc := 0x0002, r := 0x02, im := .im2, iCount := s.iCount - 8, elapsed := 8 } = true := by decide +kernel

/-- V-I16 (R493): undefined ED 77. -/
theorem test_I16_undefined_ed_77 :
    let s := (base.placeBytes 0x0000 [0xED, 0x77])
    stepsTo s { s with pc := 0x0002, r := 0x02, decodeErrors := 1, iCount := s.iCount - 8, elapsed := 8 } = true := by decide +kernel

/-- V-I17 (R493): undefined ED FF. -/
theorem test_I17_undefined_ed_ff :
    let s := (base.placeBytes 0x0000 [0xED, 0xFF])
    stepsTo s { s with pc := 0x0002, r := 0x02, decodeErrors := 1, iCount := s.iCount - 8, elapsed := 8 } = true := by decide +kernel

/-! ### Interrupts and the boundary (95_test_vectors.md) -/

/-- V-N1 (R525): acceptance with IFF1 = 0 does nothing. -/
theorem test_N1_acceptance_with_iff1_0_does_nothin :
    let s := { base with im := .im1, pc := 0x0200 }
    delivers s s = true := by decide +kernel

/-- V-N2 (R528): IM 0 is executed as IM 1. -/
theorem test_N2_im_0_is_executed_as_im_1 :
    let s := { base with im := .im0, iff1 := true, iff2 := true, pc := 0x0200 }
    delivers s ({ s with sp := 0xEFFE, pc := 0x0038, iff1 := false, iff2 := false, iCount := 69875 }.placeBytes 0xEFFE [0x00, 0x02]) = true := by decide +kernel

/-- V-N3 (R529): IM 2 with I = 0xFF: pointer bytes at 0xFFFF and 0x0000. -/
theorem test_N3_im_2_with_i_0xff :
    let s := (({ base with i := 0xFF, im := .im2, iff1 := true, pc := 0x0200 }.placeBytes 0x0000 [0xAB]).placeBytes 0xFFFF [0xCD])
    delivers s ({ s with sp := 0xEFFE, pc := 0xABCD, iff1 := false, iCount := 69869 }.placeBytes 0xEFFE [0x00, 0x02]) = true := by decide +kernel

/-- V-N4 (R525, R526): acceptance while halted pushes the address after the HALT. -/
theorem test_N4_acceptance_while_halted_pushes_the :
    let s := ({ base with im := .im1, iff1 := true, iff2 := true, pc := 0x0301, halted := true }.placeBytes 0x0300 [0x76])
    delivers s ({ s with sp := 0xEFFE, pc := 0x0038, iff1 := false, iff2 := false, halted := false, iCount := 69875 }.placeBytes 0xEFFE [0x01, 0x03]) = true := by decide +kernel

/-- V-S8 (R529, R525): mode-2 vector composition of §8. -/
theorem test_S8_mode_2_vector_composition_of_8 :
    let s := ({ base with i := 0x30, im := .im2, iff1 := true, iff2 := true, pc := 0x0200 }.placeBytes 0x30FF [0x34, 0x12])
    delivers s ({ s with sp := 0xEFFE, pc := 0x1234, iff1 := false, iff2 := false, iCount := 69869 }.placeBytes 0xEFFE [0x00, 0x02]) = true := by decide +kernel

/-- V-N8 (R172): re-arm without acceptance (IFF1 = 0). -/
theorem test_N8_re_arm_without_acceptance_iff1_0 :
    let s := ({ window with iCount := 2 }.placeBytes 0x0000 [0x00])
    stepsTo s { s with pc := 0x0001, r := 0x01, iCount := 69886, elapsed := 4, events := [.hardwareSync] } = true := by decide +kernel

/-- V-N9 (R172, R173): re-arm then acceptance at the same boundary. -/
theorem test_N9_re_arm_then_acceptance_at_the_same :
    let s := ({ window with iCount := 2, iff1 := true, iff2 := true, im := .im1 }.placeBytes 0x0000 [0x00])
    stepsTo s ({ s with pc := 0x0038, sp := 0xEFFE, r := 0x01, iff1 := false, iff2 := false, iCount := 69873, elapsed := 17, events := [.hardwareSync] }.placeBytes 0xEFFE [0x01, 0x00]) = true := by decide +kernel

/-! ### Witnesses: states and operands that meet the hypotheses of the obligations -/

/-- A state that runs `LD (HL),B` at 0x0100, HL = 0x8000, B = 0x5A. -/
def storing : State :=
  { base with main := { base.main with b := 0x5A, h := 0x80 }, pc := 0x0100 }.placeBytes 0x0100 [0x70]

/-- DecodeOfEncode: a form of each length and a prefixed one. -/
theorem witness_DecodeOfEncode :
    Instr.nop.wellFormed = true ∧ (Instr.ldRN .b 0x05).wellFormed = true ∧ (Instr.jpNn 0x1234).wellFormed = true ∧
    (Instr.ldMemIxN 0x02 0x77).wellFormed = true ∧ (Instr.fallThroughDD .exDeHl).wellFormed = true ∧
    Instr.danglingDdEd.wellFormed = true := by decide

/-- StepRunsDecoded: the byte of LD (HL),B at PC, and the next state of its second clause. -/
theorem witness_StepRunsDecoded :
    (Instr.ldMemHlR .b).wellFormed = true ∧
    (∀ (k : Nat) (v : Byte), (encode (.ldMemHlR .b))[k]? = some v →
      storing.haltRewind.readByte (storing.haltRewind.pc + BitVec.ofNat 16 k) = v) ∧
    ∃ t, exec (.ldMemHlR .b) storing.haltRewind = .next t := by
  refine ⟨by decide, fun k v h => ?_, _, rfl⟩
  match k, h with
  | 0, h => exact Option.some.inj h
  | k + 1, h => exact absurd h (by simp [encode])

/-- A halted state at the HALT byte. -/
def halting : State := { (base.placeBytes 0x0000 [0x76]) with halted := true, pc := 1 }

/-- StepRunsDecoded with halted set: the byte before PC is the one that runs. -/
theorem witness_StepRunsDecoded_halted :
    ∀ (k : Nat) (v : Byte), (encode .halt)[k]? = some v →
      halting.haltRewind.readByte (halting.haltRewind.pc + BitVec.ofNat 16 k) = v := by
  intro k v h
  match k, h with
  | 0, h =>
    have read : halting.haltRewind.readByte (halting.haltRewind.pc + BitVec.ofNat 16 0) = 0x76 := by decide +kernel
    exact read.trans (Option.some.inj h)
  | k + 1, h => exact absurd h (by simp [encode])

/-- StepKeepsInv: a storing step. -/
theorem witness_StepKeepsInv : storing.Inv ∧ ∃ t, step storing = .next t := ⟨by decide +kernel, _, rfl⟩

/-- NoSubstitutionAtBoundary: from a state in which a substitution is in force. -/
theorem witness_NoSubstitutionAtBoundary :
    ({ storing with idx := .ix } : State).tapeActive = false ∧ ∃ t, step { storing with idx := .ix } = .next t := ⟨rfl, _, rfl⟩

/-- HaltedStep. -/
theorem witness_HaltedStep :
    halting.halted = true ∧ halting.readByte (halting.pc - 1) = 0x76 ∧ halting.variant = .nonContendedNoInterrupt ∧
    halting.tapeActive = false := by
  decide +kernel

/-- BoundaryWithoutInterrupts: both variants. -/
theorem witness_BoundaryWithoutInterrupts :
    (base.tapeActive = false ∧ base.variant = .nonContendedNoInterrupt) ∧
    (({ base with variant := .timed } : State).tapeActive = false ∧ ({ base with variant := .timed } : State).variant = .timed) :=
  ⟨⟨rfl, rfl⟩, rfl, rfl⟩

/-- ReArm: ICount 0 and ICount 1, with interrupts disabled and with them inhibited. -/
theorem witness_ReArm :
    let s := fun (n : Count) (e h : Bool) => ({ window with iCount := n, iff1 := e, intInhibit := h } : State)
    (s 0 false false).tapeActive = false ∧ (s 0 false false).variant = .nonContended ∧ (s 0 false false).iff1 = false ∧
    (s 0 true true).intInhibit = true ∧ (s 0 true true).iCount.toInt ≤ 0 ∧ 0 < (s 1 false false).iCount.toInt := by
  decide +kernel

/-- InterruptCheck: without re-arm ICount one above the threshold and at it, with re-arm (from -31 and -32) the same, and each
other way of not accepting. -/
theorem witness_InterruptCheck :
    let s := fun (n : Count) (e h : Bool) => ({ window with iCount := n, iff1 := e, intInhibit := h } : State)
    let up := fun s : State => (s.iCount + s.iPeriod).toInt
    ((s 69857 true false).tapeActive = false ∧ (s 69857 true false).variant = .nonContended ∧
      (s 69857 true false).iIntTime.toInt < (s 69857 true false).iCount.toInt ∧ (s 69857 true false).iff1 = true ∧
      (s 69857 true false).intInhibit = false) ∧
    (0 < (s 69856 true false).iCount.toInt ∧ (s 69856 true false).iCount.toInt ≤ (s 69856 true false).iIntTime.toInt) ∧
    ((s (-31) true false).iCount.toInt ≤ 0 ∧ (s (-31) true false).iIntTime.toInt < up (s (-31) true false)) ∧
    ((s (-32) true false).iCount.toInt ≤ 0 ∧ up (s (-32) true false) ≤ (s (-32) true false).iIntTime.toInt) ∧
    (s 69857 false false).iff1 = false ∧ (s 69857 true true).intInhibit = true := by decide +kernel

/-- Acceptance: both values of IFF1. -/
theorem witness_Acceptance :
    base.iff1 = false ∧ ({ base with iff1 := true, im := .im2 } : State).iff1 = true := ⟨rfl, rfl⟩

/-- InhibitedBoundary: EI, a dangling prefix and an instruction that is neither. -/
theorem witness_InhibitedBoundary :
    (Instr.ei.wellFormed = true ∧ ∃ t, exec .ei base = .next t ∧ t.intInhibit = true ∧ t.tapeActive = false) ∧
    (Instr.danglingDdDd.wellFormed = true ∧ ∃ t, exec .danglingDdDd base = .next t ∧ t.intInhibit = true) ∧
    (Instr.nop.wellFormed = true ∧ ∃ t, exec .nop base = .next t ∧ t.intInhibit = false) :=
  ⟨⟨rfl, _, rfl, rfl, rfl⟩, ⟨rfl, _, rfl, rfl⟩, rfl, _, rfl, rfl⟩

/-- RunConservation: budgets 0 and 1, and each variant. -/
theorem witness_RunConservation :
    (0 : Int) ≤ 0 ∧ (0 : Int) < 1 ∧ ∀ v : Variant, v = .timed ∨ v = .nonContended ∨ v = .nonContendedNoInterrupt :=
  ⟨by decide, by decide, fun v => by cases v <;> decide⟩

/-- RunCounts: one NOP on a budget of 4, and the timed variant on a budget of 0. -/
theorem witness_RunCounts :
    base.tapeActive = false ∧ (∃ t, runCall .nonContendedNoInterrupt 4 base = .next t) ∧
    ∃ t, runCall .timed 0 base = .next t := ⟨rfl, ⟨_, rfl⟩, _, rfl⟩

/-- MemoryFrame: a store, and an address beside the one stored to. -/
theorem witness_MemoryFrame :
    (Instr.ldMemHlR .b).wellFormed = true ∧ (∃ t, exec (.ldMemHlR .b) storing = .next t) ∧
    (0x8000 : Word) ∈ storedTo (.ldMemHlR .b) storing ∧ (0x8001 : Word) ∉ storedTo (.ldMemHlR .b) storing :=
  ⟨rfl, ⟨_, rfl⟩, by decide +kernel, by decide +kernel⟩

/-- ReadOnlyMemory: the address stored to lies in a read-only range, as its last. -/
theorem witness_ReadOnlyMemory :
    let s := { storing with readOnly := [(0x4000, 0x8000)] }
    s.writable 0x8000 = false ∧ s.writable 0x8001 = true ∧ s.tapeActive = false ∧
    (∃ t, exec (.ldMemHlR .b) s = .next t) ∧ ∃ t, step s = .next t :=
  ⟨by decide +kernel, by decide +kernel, rfl, ⟨_, rfl⟩, _, rfl⟩

/-- EventsFrame. -/
theorem witness_EventsFrame :
    usesPort (.ldMemHlR .b) = false ∧ (Instr.ldMemHlR .b).wellFormed = true ∧ (∃ t, exec (.ldMemHlR .b) storing = .next t) ∧
    ∃ t, step storing = .next t := ⟨rfl, rfl, ⟨_, rfl⟩, _, rfl⟩

/-- ResetOnlyFields, ControlFrame, RefreshAndShadowFrame, FlagFrame: NOP meets every premise but that of HALT, and HALT meets
that one. -/
theorem witness_Frames :
    Instr.nop.wellFormed = true ∧ (∃ t, exec .nop base = .next t) ∧ keepsFlags .nop = true ∧
    ((∀ y, Instr.nop ≠ .im0 y) ∧ (∀ y, Instr.nop ≠ .im1 y) ∧ (∀ y, Instr.nop ≠ .im2 y)) ∧
    (plainOf .nop ≠ .di ∧ plainOf .nop ≠ .ei ∧ Instr.nop ≠ .reti ∧ (∀ y, Instr.nop ≠ .retn y)) ∧ plainOf .nop ≠ .halt ∧
    ((∀ k, Instr.nop ≠ .undefEd77 k) ∧ (∀ k, Instr.nop ≠ .undefEdX0 k) ∧ (∀ k, Instr.nop ≠ .undefEdX2 k) ∧
      (∀ k, Instr.nop ≠ .undefEdX3 k)) ∧
    Instr.nop ≠ .ldIA ∧ Instr.nop ≠ .ldRA ∧ plainOf .nop ≠ .exAfAf ∧ plainOf .nop ≠ .exx ∧
    (Instr.halt.wellFormed = true ∧ plainOf .halt = .halt ∧ ∃ t, exec .halt base = .next t) := by
  refine ⟨rfl, ⟨_, rfl⟩, rfl, ?_, ?_, ?_, ?_, ?_, ?_, ?_, ?_, rfl, rfl, _, rfl⟩ <;> simp [plainOf]

/-- ReadAfterWrite: the byte itself, its neighbour, and a byte that cannot be written. -/
theorem witness_ReadAfterWrite :
    let s := { storing with readOnly := [(0x0000, 0x3FFF)] }
    s.Inv ∧ s.writable 0x4000 = true ∧ s.writable 0x3FFF = false ∧ (0x4001 : Word) ≠ 0x4000 := by decide +kernel

/-- PushThenPop: SP = 0x0000, where the push wraps. -/
theorem witness_PushThenPop :
    let s := { storing with sp := 0 }
    s.Inv ∧ s.writable (s.sp - 1) = true ∧ s.writable (s.sp - 2) = true := by decide +kernel

/-- BlockSearch: the last element by the count, by the match, and an element that repeats. -/
theorem witness_BlockSearch :
    let last := fun s : State => s.bc = 1 ∨ s.main.a = s.readByte s.hl
    let s := fun (n a : Byte) => ({ base with main := { base.main with a := a, c := n } } : State)
    last (s 1 0x41) ∧ last (s 2 0x00) ∧ ¬ last (s 2 0x41) := by decide +kernel

/-- BlockInput and PortInput: one byte prepared; and B = 1 and B = 2. -/
theorem witness_PortInput :
    let s := fun b : Byte => ({ base with main := { base.main with b := b }, portInput := [0x7F] } : State)
    (s 1).portInput = 0x7F :: [] ∧ (s 1).main.b = 1 ∧ (s 2).main.b ≠ 1 := by decide +kernel

/-- PortInputFree: nothing prepared, as after reset; B = 1 and B = 0. -/
theorem witness_PortInputFree :
    State.reset.portInput = [] ∧ ({ base with main := { base.main with b := 1 } } : State).portInput = [] ∧
    State.reset.main.b ≠ 1 := ⟨rfl, rfl, by decide⟩

/-- DanglingPrefix and FallThrough. -/
theorem witness_prefixes :
    dangles .danglingDdDd = true ∧ dangles .danglingFdEd = true ∧ Instr.exDeHl.fallsThrough = true ∧
    (Instr.jrCc .c 0x10).fallsThrough = true := by decide

end Sys2Proof.Tests
end

section
/-! The push and the pop of a word, through the laws of one byte's write and read. -/

namespace Sys2Proof.Machine

/-- The canonical form matters: a blank byte written before the list's first address is not listed. -/
theorem State.readByte_writeByte_same {s : State} {a : Word} (hs : s.Inv) (ha : s.writable a = true) (v : Byte) :
    (s.writeByte a v).readByte a = v := by
  rw [State.readByte, State.writeByte_mem, if_pos ha]
  exact Memory.read_write_same hs a.toNat v

/-- 20_memory.md R71 (d): the push as two byte stores at addresses counted from the old SP. -/
theorem State.push16_eq (s : State) (v : Word) :
    s.push16 v = { (s.writeByte (s.sp - 1) v.hi).writeByte (s.sp - 2) v.lo with sp := s.sp - 2 } := by
  have hsp : s.sp - 2 = s.sp - 1 - 1 := by bv_omega
  rw [hsp]
  rfl

theorem State.readByte_push16 (s : State) (v a : Word) :
    (s.push16 v).readByte a = ((s.writeByte (s.sp - 1) v.hi).writeByte (s.sp - 2) v.lo).readByte a := by
  rw [State.push16_eq]
  rfl

theorem State.readByte_push16_high {s : State} (hs : s.Inv) (hw : s.writable (s.sp - 1) = true) (v : Word) :
    (s.push16 v).readByte (s.sp - 1) = v.hi := by
  have hne : s.sp - 1 ≠ s.sp - 2 := by bv_omega
  rw [State.readByte_push16, State.readByte_writeByte_other _ hne, State.readByte_writeByte_same hs hw]

theorem State.readByte_push16_low {s : State} (hs : s.Inv) (hw : s.writable (s.sp - 2) = true) (v : Word) :
    (s.push16 v).readByte (s.sp - 2) = v.lo := by
  rw [State.readByte_push16]
  exact State.readByte_writeByte_same (State.writeByte_wf hs _ _) (by rwa [State.writable_writeByte]) v.lo

theorem State.pop16_fst (s : State) : s.pop16.1 = Word.mk (s.readByte (s.sp + 1)) (s.readByte s.sp) := rfl

theorem State.pop16_sp (s : State) : s.pop16.2.sp = s.sp + 2 := rfl

/-- 20_memory.md R67: the pop reads the two bytes that the push stored, wherever the stack wraps. -/
theorem State.pop16_push16 {s : State} (hs : s.Inv) (hhi : s.writable (s.sp - 1) = true)
    (hlo : s.writable (s.sp - 2) = true) (v : Word) : (s.push16 v).pop16.1 = v := by
  have hsp : s.sp - 2 + 1 = s.sp - 1 := by bv_omega
  rw [State.pop16_fst, State.push16_sp, hsp, State.readByte_push16_high hs hhi, State.readByte_push16_low hs hlo,
    Word.mk_hi_lo]

theorem State.pop16_push16_sp (s : State) (v : Word) : (s.push16 v).pop16.2.sp = s.sp := by
  rw [State.pop16_sp, State.push16_sp, BitVec.sub_add_cancel]

end Sys2Proof.Machine

namespace Sys2Proof
open Machine

/-- Settles O26: the push is two byte stores at distinct addresses, so each is read back by the law of one write. -/
theorem pushThenPop : Obligations.PushThenPop := by
  intro s v hs hhi hlo
  exact ⟨State.push16_sp s v, State.readByte_push16_high hs hhi v, State.readByte_push16_low hs hlo v,
    State.pop16_push16 hs hhi hlo v, State.pop16_push16_sp s v⟩

end Sys2Proof
end

section
/-! What a register or a pair reads after a write of one. -/

namespace Sys2Proof.Machine

@[simp] theorem State.bc_setBC (s : State) (w : Word) : (s.setBC w).bc = w := Word.mk_hi_lo w

@[simp] theorem State.de_setDE (s : State) (w : Word) : (s.setDE w).de = w := Word.mk_hi_lo w

@[simp] theorem State.hl_setHL (s : State) (w : Word) : (s.setHL w).hl = w := Word.mk_hi_lo w

@[simp] theorem State.af_setAF (s : State) (w : Word) : (s.setAF w).af = w := Word.mk_hi_lo w

@[simp] theorem State.setBC_pairs (s : State) (w : Word) :
    (s.setBC w).de = s.de ∧ (s.setBC w).hl = s.hl ∧ (s.setBC w).af = s.af := ⟨rfl, rfl, rfl⟩

@[simp] theorem State.setDE_pairs (s : State) (w : Word) :
    (s.setDE w).bc = s.bc ∧ (s.setDE w).hl = s.hl ∧ (s.setDE w).af = s.af := ⟨rfl, rfl, rfl⟩

@[simp] theorem State.setHL_pairs (s : State) (w : Word) :
    (s.setHL w).bc = s.bc ∧ (s.setHL w).de = s.de ∧ (s.setHL w).af = s.af := ⟨rfl, rfl, rfl⟩

@[simp] theorem State.setAF_pairs (s : State) (w : Word) :
    (s.setAF w).bc = s.bc ∧ (s.setAF w).de = s.de ∧ (s.setAF w).hl = s.hl := ⟨rfl, rfl, rfl⟩

end Sys2Proof.Machine

namespace Sys2Proof
open Machine

/-- Settles O28: a register write by `reg_setReg` and the frame of `setReg`, a pair write by the two bytes of its word. -/
theorem registerWrites : Obligations.RegisterWrites := by
  intro s r q v w
  refine ⟨State.reg_setReg s r q v, ?_⟩
  simp

end Sys2Proof
end

section
/-! What the shared ends of an instruction answer, and which instructions a DD or FD byte before them leaves as they are. -/

namespace Sys2Proof.Machine

theorem branch_next {taken : Bool} {costTaken costNot : Nat} {effect : State → State} {u t : State}
    (h : branch taken costTaken costNot effect u = .next t) :
    t = (effect u).retire costTaken ∨ t = u.retire costNot := by
  cases taken with
  | true =>
    cases h
    exact .inl rfl
  | false =>
    cases h
    exact .inr rfl

theorem State.endElement_next {u t : State} {again : Bool} {mask : Byte} (h : u.endElement again mask = .next t) :
    t = (u.drawIntoF mask).rewindBlock.retire 21 ∨ t = u.retire 16 := by
  cases again with
  | true =>
    cases h
    exact .inl rfl
  | false =>
    cases h
    exact .inr rfl

/-- A row of the unprefixed table runs as the instruction itself; every other instruction is refused there. -/
theorem exec_of_unprefixedRow {i : Instr} {s t : State} (h : unprefixedRow i s = .next t) : exec i s = .next t := by
  cases i <;> first | exact h | cases h

/-- 40_engine.md R167: behind a DD or FD byte, the instruction itself one fetch later, its cost raised by 4. -/
theorem fallThrough_next {i : Instr} {s t : State} (h : fallThrough i s = .next t) :
    ∃ u, exec i (s.fetched 1 1) = .next u ∧ t = u.charge 4 := by
  unfold fallThrough at h
  split at h
  case h_1 u hu =>
    cases h
    exact ⟨u, exec_of_unprefixedRow hu, rfl⟩
  all_goals cases h

theorem plainOf_of_fallsThrough {i : Instr} (h : i.fallsThrough = true) : plainOf i = i := by
  cases i
  case fallThroughDD | fallThroughFD => cases h
  all_goals rfl

theorem Instr.wellFormed_of_fallsThrough {i : Instr} (h : i.fallsThrough = true) : i.wellFormed = true := by
  cases i
  case jrCc => exact h
  case prefixCB | prefixDD | prefixED | prefixFD | ddCb | fdCb | retn | im0 | im1 | im2 | undefEdX2 | ldRIxHalf | ldRIyHalf |
      fallThroughDD | fallThroughFD => cases h
  all_goals rfl

/-- A well-formed instruction stands for itself, or for one that falls through. -/
theorem plainOf_eq_or_fallsThrough {i : Instr} (h : i.wellFormed = true) :
    plainOf i = i ∨ (plainOf i).fallsThrough = true := by
  cases i
  case fallThroughDD | fallThroughFD => exact .inr h
  all_goals exact .inl rfl

end Sys2Proof.Machine
end

section
/-! The control part of the state, which only a few named instructions write: the interrupt fields, I, the halt, the
decoding errors, the shadow registers and bit 7 of R. -/

namespace Sys2Proof.Machine

/-- The fields of 10_state.md R21, R27, R29 to R31 and R38, and bit 7 of R (R28). -/
structure ControlPart where
  i : Byte
  rTop : Bool
  iff1 : Bool
  iff2 : Bool
  im : IntMode
  halted : Bool
  decodeErrors : Count
  shadow : RegSet

/-- The control part of a state. -/
def State.control (s : State) : ControlPart :=
  { i := s.i, rTop := s.r.getLsbD 7, iff1 := s.iff1, iff2 := s.iff2, im := s.im, halted := s.halted
    decodeErrors := s.decodeErrors, shadow := s.shadow }

/-- What an instruction with no DD or FD fallen through before it leaves of the control part, from the main registers and the
control part it finds. -/
def rowControl : Instr → RegSet → ControlPart → ControlPart
  | .ldIA, m, c => { c with i := m.a }
  | .ldRA, m, c => { c with rTop := m.a.getLsbD 7 }
  | .di, _, c => { c with iff1 := false, iff2 := false }
  | .ei, _, c => { c with iff1 := true, iff2 := true }
  | .reti, _, c => { c with iff1 := c.iff2 }
  | .retn _, _, c => { c with iff1 := c.iff2 }
  | .im0 _, _, c => { c with im := .im0 }
  | .im1 _, _, c => { c with im := .im1 }
  | .im2 _, _, c => { c with im := .im2 }
  | .halt, _, c => { c with halted := true }
  | .undefEd77 _, _, c => { c with decodeErrors := c.decodeErrors + 1 }
  | .undefEdX0 _, _, c => { c with decodeErrors := c.decodeErrors + 1 }
  | .undefEdX2 _, _, c => { c with decodeErrors := c.decodeErrors + 1 }
  | .undefEdX3 _, _, c => { c with decodeErrors := c.decodeErrors + 1 }
  | .exAfAf, m, c => { c with shadow := { c.shadow with a := m.a, f := m.f } }
  | .exx, m, c => { c with shadow := { m with a := c.shadow.a, f := c.shadow.f } }
  | _, _, c => c

/-! ### What the operations leave of the control part -/

/-- An increment of R keeps bit 7, so the fetch keeps the control part. -/
@[simp] theorem State.fetched_control (s : State) (len rinc : Nat) : (s.fetched len rinc).control = s.control := by
  rw [State.control, State.fetched_r, bumpRTimes_eq, refreshed_bit7]
  simp [State.control]

@[simp] theorem State.engine_control (s : State) :
    (∀ x, (s.select x).control = s.control) ∧ (∀ n, (s.charge n).control = s.control) ∧
    ∀ n b, (s.retire n b).control = s.control := ⟨fun _ => rfl, fun _ => rfl, fun _ _ => rfl⟩

@[simp] theorem State.setByte_control (s : State) (v : Byte) :
    (s.setA v).control = s.control ∧ (s.setF v).control = s.control ∧ (s.setB v).control = s.control ∧
    (∀ r, (s.setReg r v).control = s.control) ∧ ∀ h, (s.setHalf h v).control = s.control := by
  simp [State.control]

@[simp] theorem State.setWord_control (s : State) (v : Word) :
    (s.setBC v).control = s.control ∧ (s.setDE v).control = s.control ∧ (s.setHL v).control = s.control ∧
    (s.setHlx v).control = s.control ∧ (∀ p, (s.setPair p v).control = s.control) ∧
    ∀ p, (s.setStackPair p v).control = s.control := by
  simp [State.control]

@[simp] theorem State.memory_control (s : State) :
    (∀ a v, (s.writeByte a v).control = s.control) ∧ (∀ a v, (s.writeWord a v).control = s.control) ∧
    (∀ v, (s.push16 v).control = s.control) ∧ s.pop16.2.control = s.control ∧ s.exchangeTop.control = s.control := by
  simp [State.control, State.pop16, State.exchangeTop]

@[simp] theorem State.hook_control (s : State) :
    (∀ mask, (s.drawIntoF mask).control = s.control) ∧ (∀ p, (s.ioRead p).2.control = s.control) ∧
    ∀ p v, (s.ioWrite p v).control = s.control := by
  simp [State.control]

@[simp] theorem State.jump_control (s : State) :
    (∀ v, (s.jumpTo v).control = s.control) ∧ (∀ v, (s.callTo v).control = s.control) ∧ s.popPC.control = s.control ∧
    (∀ e, (s.jumpRelative e).control = s.control) ∧ s.rewindBlock.control = s.control :=
  ⟨fun _ => rfl, fun _ => rfl, rfl, fun _ => rfl, rfl⟩

@[simp] theorem State.alu_control (s : State) (v : Byte) :
    (s.aluAdd v).control = s.control ∧ (s.aluAdc v).control = s.control ∧ (s.aluSub v).control = s.control ∧
    (s.aluSbc v).control = s.control ∧ (s.aluAnd v).control = s.control ∧ (s.aluXor v).control = s.control ∧
    (s.aluOr v).control = s.control ∧ (s.aluCp v).control = s.control :=
  ⟨rfl, rfl, rfl, rfl, rfl, rfl, rfl, rfl⟩

@[simp] theorem State.arithmetic_control (s : State) :
    (∀ res, (s.setAcc res).control = s.control) ∧ (∀ p, (s.addPair p).control = s.control) ∧
    (∀ r, (s.incReg r).control = s.control) ∧ (∀ r, (s.decReg r).control = s.control) ∧
    (∀ h, (s.incHalf h).control = s.control) ∧ (∀ h, (s.decHalf h).control = s.control) ∧
    (∀ a, (s.incMem a).control = s.control) ∧ ∀ a, (s.decMem a).control = s.control := by
  simp [State.setAcc, State.addPair, State.incReg, State.decReg, State.incHalf, State.decHalf, State.incMem, State.decMem]

@[simp] theorem State.rotate_control (s : State) (op : Byte → Bool → Byte × Bool) :
    (s.rotA op).control = s.control ∧ (∀ r, (s.rotReg op r).control = s.control) ∧
    (∀ a, (s.rotMem op a).control = s.control) ∧ ∀ a r, (s.rotMemCopy op a r).control = s.control := by
  simp [State.rotA, State.rotReg, State.rotMem, State.rotMemCopy]

@[simp] theorem State.map_control (s : State) (op : Byte → Byte) :
    (∀ r, (s.mapReg op r).control = s.control) ∧ (∀ a, (s.mapMem op a).control = s.control) ∧
    ∀ a r, (s.mapMemCopy op a r).control = s.control := by
  simp [State.mapReg, State.mapMem, State.mapMemCopy]

@[simp] theorem State.element_control (s : State) (inc : Word) :
    (s.loadElement inc).control = s.control ∧ (s.compareElement inc).control = s.control ∧
    (s.inputElement inc).control = s.control ∧ (s.outputElement inc).control = s.control := by
  simp [State.loadElement, State.compareElement, State.inputElement, State.outputElement]

/-! ### What an instruction leaves of the control part -/

theorem control_of_retire {u t : State} {cost : Nat} {inhibit : Bool} {c : ControlPart}
    (h : (.next (u.retire cost inhibit) : Result) = .next t) (hu : u.control = c) : t.control = c := by
  cases h
  exact hu

theorem control_of_branch {taken : Bool} {costTaken costNot : Nat} {effect : State → State} {u t : State}
    {c : ControlPart} (h : branch taken costTaken costNot effect u = .next t) (hu : u.control = c)
    (he : (effect u).control = c) : t.control = c := by
  obtain rfl | rfl := branch_next h
  · exact he
  · exact hu

theorem control_of_endElement {u t : State} {again : Bool} {mask : Byte} {c : ControlPart}
    (h : u.endElement again mask = .next t) (hu : u.control = c) : t.control = c := by
  obtain rfl | rfl := State.endElement_next h
  · simpa using hu
  · exact hu

/-- Every well-formed instruction: the rows named in `rowControl` write what it says, a DD or FD fallen through changes
nothing, and every other instruction is built of operations that keep the control part. -/
theorem exec_control {i : Instr} {s t : State} (hw : i.wellFormed = true) (h : exec i s = .next t) :
    t.control = rowControl (plainOf i) s.main s.control := by
  induction i generalizing s t
  case fallThroughDD i ih | fallThroughFD i ih =>
    obtain ⟨u, hu, rfl⟩ := fallThrough_next h
    have hi := ih (Instr.wellFormed_of_fallsThrough hw) hu
    rw [plainOf_of_fallsThrough hw] at hi
    simpa [plainOf] using hi
  case prefixCB | prefixDD | prefixED | prefixFD | ddCb | fdCb => cases hw
  case djnz | jrCc | jpCcNn | callCcNn | retCc =>
    simp only [exec, execDjnz, execJrCc, execJpCcNn, execCallCcNn, execRetCc] at h
    exact control_of_branch h (c := s.control) (by simp) (by simp)
  case ldir | lddr | cpir | cpdr | inir | indr | otir | otdr =>
    simp only [exec, execLdir, execLddr, execCpir, execCpdr, execInir, execIndr, execOtir, execOtdr] at h
    exact control_of_endElement h (c := s.control) (by simp)
  case di | ei | halt | exAfAf | exx | ldSpHl =>
    rw [← State.fetched_control s 1 1]
    exact control_of_retire h rfl
  case reti | retn | im0 | im1 | im2 | ldIA | ldRA | undefEd77 | undefEdX0 | undefEdX2 | undefEdX3 | ldSpIx | ldSpIy =>
    rw [← State.fetched_control s 2 2]
    exact control_of_retire h rfl
  all_goals exact control_of_retire h (c := s.control) (by simp)

/-! ### Which row writes which field -/

/-- A row that does not fall through stands behind no DD or FD. -/
theorem plainOf_ne {i k : Instr} (hw : i.wellFormed = true) (hk : k.fallsThrough = false) (h : i ≠ k) : plainOf i ≠ k := by
  intro hik
  obtain hp | hf := plainOf_eq_or_fallsThrough hw
  · exact h (hp.symm.trans hik)
  · rw [hik, hk] at hf
    cases hf

section
variable {i : Instr} (m : RegSet) (c : ControlPart)

theorem rowControl_i (h : i ≠ .ldIA) : (rowControl i m c).i = c.i := by
  cases i
  case ldIA => exact absurd rfl h
  all_goals rfl

theorem rowControl_rTop (h : i ≠ .ldRA) : (rowControl i m c).rTop = c.rTop := by
  cases i
  case ldRA => exact absurd rfl h
  all_goals rfl

theorem rowControl_iff2 (hdi : i ≠ .di) (hei : i ≠ .ei) : (rowControl i m c).iff2 = c.iff2 := by
  cases i
  case di => exact absurd rfl hdi
  case ei => exact absurd rfl hei
  all_goals rfl

theorem rowControl_iff1 (hdi : i ≠ .di) (hei : i ≠ .ei) (hreti : i ≠ .reti) (hretn : ∀ y, i ≠ .retn y) :
    (rowControl i m c).iff1 = c.iff1 := by
  cases i
  case di => exact absurd rfl hdi
  case ei => exact absurd rfl hei
  case reti => exact absurd rfl hreti
  case retn y => exact absurd rfl (hretn y)
  all_goals rfl

theorem rowControl_im (h0 : ∀ y, i ≠ .im0 y) (h1 : ∀ y, i ≠ .im1 y) (h2 : ∀ y, i ≠ .im2 y) :
    (rowControl i m c).im = c.im := by
  cases i
  case im0 y => exact absurd rfl (h0 y)
  case im1 y => exact absurd rfl (h1 y)
  case im2 y => exact absurd rfl (h2 y)
  all_goals rfl

theorem rowControl_halted (h : i ≠ .halt) : (rowControl i m c).halted = c.halted := by
  cases i
  case halt => exact absurd rfl h
  all_goals rfl

theorem rowControl_decodeErrors (h77 : ∀ k, i ≠ .undefEd77 k) (h0 : ∀ k, i ≠ .undefEdX0 k) (h2 : ∀ k, i ≠ .undefEdX2 k)
    (h3 : ∀ k, i ≠ .undefEdX3 k) : (rowControl i m c).decodeErrors = c.decodeErrors := by
  cases i
  case undefEd77 k => exact absurd rfl (h77 k)
  case undefEdX0 k => exact absurd rfl (h0 k)
  case undefEdX2 k => exact absurd rfl (h2 k)
  case undefEdX3 k => exact absurd rfl (h3 k)
  all_goals rfl

theorem rowControl_shadowAF (h : i ≠ .exAfAf) :
    (rowControl i m c).shadow.a = c.shadow.a ∧ (rowControl i m c).shadow.f = c.shadow.f := by
  cases i
  case exAfAf => exact absurd rfl h
  all_goals exact ⟨rfl, rfl⟩

theorem rowControl_shadowPairs (h : i ≠ .exx) :
    (rowControl i m c).shadow.b = c.shadow.b ∧ (rowControl i m c).shadow.c = c.shadow.c ∧
    (rowControl i m c).shadow.d = c.shadow.d ∧ (rowControl i m c).shadow.e = c.shadow.e ∧
    (rowControl i m c).shadow.h = c.shadow.h ∧ (rowControl i m c).shadow.l = c.shadow.l := by
  cases i
  case exx => exact absurd rfl h
  all_goals exact ⟨rfl, rfl, rfl, rfl, rfl, rfl⟩

end

end Sys2Proof.Machine

namespace Sys2Proof
open Machine

/-- Settles O22, field by field from the row that `exec_control` finds behind a DD or FD. -/
theorem controlFrame : Obligations.ControlFrame := by
  intro i s t hw h
  have hc := exec_control hw h
  refine ⟨fun ⟨h0, h1, h2⟩ => ?_, fun hi => ?_, fun ⟨hdi, hei⟩ => ?_, fun ⟨hdi, hei, hreti, hretn⟩ => ?_, fun hhalt => ?_,
    fun hhalt => ?_, fun ⟨h77, h0, h2, h3⟩ => ?_⟩
  · exact (congrArg ControlPart.im hc).trans (rowControl_im _ _ (fun y => plainOf_ne hw rfl (h0 y))
      (fun y => plainOf_ne hw rfl (h1 y)) (fun y => plainOf_ne hw rfl (h2 y)))
  · exact (congrArg ControlPart.i hc).trans (rowControl_i _ _ (plainOf_ne hw rfl hi))
  · exact (congrArg ControlPart.iff2 hc).trans (rowControl_iff2 _ _ hdi hei)
  · exact (congrArg ControlPart.iff1 hc).trans (rowControl_iff1 _ _ hdi hei (plainOf_ne hw rfl hreti)
      (fun y => plainOf_ne hw rfl (hretn y)))
  · exact (congrArg ControlPart.halted hc).trans (rowControl_halted _ _ hhalt)
  · rw [hhalt] at hc
    exact congrArg ControlPart.halted hc
  · exact (congrArg ControlPart.decodeErrors hc).trans (rowControl_decodeErrors _ _
      (fun k => plainOf_ne hw rfl (h77 k)) (fun k => plainOf_ne hw rfl (h0 k)) (fun k => plainOf_ne hw rfl (h2 k))
      (fun k => plainOf_ne hw rfl (h3 k)))

/-- Settles O23, from the same equation: bit 7 of R and the shadow registers belong to the control part. -/
theorem refreshAndShadowFrame : Obligations.RefreshAndShadowFrame := by
  intro i s t hw h
  have hc := exec_control hw h
  have hshadow : t.shadow = (rowControl (plainOf i) s.main s.control).shadow := congrArg ControlPart.shadow hc
  refine ⟨fun hra => ?_, fun haf => ?_, fun hexx => ?_⟩
  · exact (congrArg ControlPart.rTop hc).trans (rowControl_rTop _ _ (plainOf_ne hw rfl hra))
  · rw [hshadow]
    exact rowControl_shadowAF _ _ haf
  · rw [hshadow]
    exact rowControl_shadowPairs _ _ hexx

end Sys2Proof
end

section
/-! F under the instructions whose flag line marks no flag. -/

namespace Sys2Proof.Machine

@[simp] theorem State.setHlx_f (s : State) (v : Word) : (s.setHlx v).main.f = s.main.f := by
  unfold State.setHlx
  split <;> rfl

@[simp] theorem State.setHalf_f (s : State) (h : Half) (v : Byte) : (s.setHalf h v).main.f = s.main.f := by
  cases h <;> simp [State.setHalf]

@[simp] theorem State.setPair_f (s : State) (p : Pair) (v : Word) : (s.setPair p v).main.f = s.main.f := by
  cases p
  case hl => exact State.setHlx_f s v
  all_goals rfl

theorem State.setStackPair_f {p : StackPair} (h : p ≠ .af) (s : State) (v : Word) :
    (s.setStackPair p v).main.f = s.main.f := by
  cases p
  case af => exact absurd rfl h
  all_goals rfl

@[simp] theorem State.setMain_f (s : State) :
    (∀ v, (s.setA v).main.f = s.main.f) ∧ (∀ v, (s.setB v).main.f = s.main.f) ∧
    (∀ w, (s.setDE w).main.f = s.main.f) ∧ ∀ w, (s.setHL w).main.f = s.main.f :=
  ⟨fun _ => rfl, fun _ => rfl, fun _ => rfl, fun _ => rfl⟩

@[simp] theorem State.map_f (s : State) (op : Byte → Byte) :
    (∀ r, (s.mapReg op r).main.f = s.main.f) ∧ (∀ a, (s.mapMem op a).main.f = s.main.f) ∧
    ∀ a r, (s.mapMemCopy op a r).main.f = s.main.f := by
  simp [State.mapReg, State.mapMem, State.mapMemCopy]

@[simp] theorem State.stack_f (s : State) :
    s.pop16.2.main.f = s.main.f ∧ s.popPC.main.f = s.main.f ∧ s.returnFromInterrupt.main.f = s.main.f ∧
    (∀ v, (s.callTo v).main.f = s.main.f) ∧ s.exchangeTop.main.f = s.main.f := by
  refine ⟨rfl, rfl, rfl, fun _ => rfl, ?_⟩
  simp [State.exchangeTop]

@[simp] theorem State.jump_f (s : State) :
    (∀ v, (s.jumpTo v).main.f = s.main.f) ∧ (∀ e, (s.jumpRelative e).main.f = s.main.f) ∧
    s.decodeError.main.f = s.main.f := ⟨fun _ => rfl, fun _ => rfl, rfl⟩

theorem f_of_retire {u t : State} {cost : Nat} {inhibit : Bool} {f : Byte}
    (h : (.next (u.retire cost inhibit) : Result) = .next t) (hu : u.main.f = f) : t.main.f = f := by
  cases h
  exact hu

theorem f_of_branch {taken : Bool} {costTaken costNot : Nat} {effect : State → State} {u t : State} {f : Byte}
    (h : branch taken costTaken costNot effect u = .next t) (hu : u.main.f = f) (he : (effect u).main.f = f) :
    t.main.f = f := by
  obtain rfl | rfl := branch_next h
  · exact he
  · exact hu

/-- The instructions marked in `keepsFlags` are built of operations that leave F, as does a DD or FD fallen through. -/
theorem exec_keepsFlags {i : Instr} {s t : State} (hk : keepsFlags i = true) (h : exec i s = .next t) :
    t.main.f = s.main.f := by
  induction i generalizing s t
  case fallThroughDD i ih | fallThroughFD i ih =>
    obtain ⟨u, hu, rfl⟩ := fallThrough_next h
    have hf : u.main.f = (s.fetched 1 1).main.f := ih hk hu
    simpa using hf
  case djnz | jrCc | jpCcNn | callCcNn | retCc =>
    simp only [exec, execDjnz, execJrCc, execJpCcNn, execCallCcNn, execRetCc] at h
    exact f_of_branch h (by simp) (by simp)
  case popRp2 p =>
    have hp : p ≠ .af := bne_iff_ne.1 hk
    exact f_of_retire h (by simp [State.setStackPair_f hp])
  case exx => exact f_of_retire h rfl
  all_goals cases hk
  all_goals exact f_of_retire h (by simp)

end Sys2Proof.Machine

namespace Sys2Proof
open Machine

/-- Settles O24, by the induction of `exec_keepsFlags` through the fall-through forms. -/
theorem flagFrame : Obligations.FlagFrame :=
  fun _ _ _ _ h hk => exec_keepsFlags hk h

end Sys2Proof
end

section
/-! The outer part of the state: what the memory and port operations of 20_memory.md reach, and the fields that no
instruction writes. One relation says all that an instruction, or a boundary outside a tape load, can do to it. -/

namespace Sys2Proof.Machine

/-- The fields that only the host, the platform or a reset writes (20_memory.md R62; 10_state.md R33, R34, R37, R39). -/
structure FixedPart where
  readOnly : List (Word × Word)
  tapeActive : Bool
  variant : Variant
  iPeriod : Count
  iIntTime : Count
  debugTrapAddr : Word
  breakEnable : Bool
  iRequest : Option Word

/-- The memory, the record of events and the prepared port bytes (20_memory.md R61, R63, R72), and the fields above. -/
structure OuterPart where
  mem : Memory
  events : List HookEvent
  portInput : List Byte
  fixed : FixedPart

/-- The outer part of a state. -/
def State.outer (s : State) : OuterPart :=
  { mem := s.mem, events := s.events, portInput := s.portInput
    fixed :=
      { readOnly := s.readOnly, tapeActive := s.tapeActive, variant := s.variant, iPeriod := s.iPeriod
        iIntTime := s.iIntTime, debugTrapAddr := s.debugTrapAddr, breakEnable := s.breakEnable
        iRequest := s.iRequest } }

/-- One more hook call recorded, after which `l` are the prepared port bytes. -/
def OuterPart.record (o : OuterPart) (e : HookEvent) (l : List Byte) : OuterPart :=
  { o with events := o.events ++ [e], portInput := l }

/-- `Reaches A hooks o o'`: from `o`, byte stores at addresses of `A` and, if `hooks`, recorded hook calls lead to `o'`. -/
inductive Reaches (A : List Word) (hooks : Bool) (o : OuterPart) : OuterPart → Prop where
  | refl : Reaches A hooks o o
  | store {u : State} {a : Word} {v : Byte} : Reaches A hooks o u.outer → a ∈ A → Reaches A hooks o (u.writeByte a v).outer
  | record {o' : OuterPart} {e : HookEvent} {l : List Byte} : Reaches A hooks o o' → hooks = true →
      Reaches A hooks o (o'.record e l)

/-! ### What follows from reaching -/

section
variable {A : List Word} {hooks : Bool} {s : State} {o o' : OuterPart} {a : Word}

theorem Reaches.fixed (h : Reaches A hooks o o') : o'.fixed = o.fixed := by
  induction h with
  | refl => rfl
  | store _ _ ih => exact ih
  | record _ _ ih => exact ih

/-- Writability is the platform's list alone. -/
theorem Reaches.writable {t : State} (h : Reaches A hooks s.outer t.outer) (a : Word) : t.writable a = s.writable a := by
  have hro : t.readOnly = s.readOnly := congrArg FixedPart.readOnly h.fixed
  rw [State.writable, hro, State.writable]

theorem Reaches.wf (h : Reaches A hooks o o') (ho : Memory.wf o.mem = true) : Memory.wf o'.mem = true := by
  induction h with
  | refl => exact ho
  | store _ _ ih => exact State.writeByte_wf ih _ _
  | record _ _ ih => exact ih

theorem Reaches.read_of_notMem (h : Reaches A hooks o o') (ha : a ∉ A) :
    Memory.read o'.mem a.toNat = Memory.read o.mem a.toNat := by
  induction h with
  | refl => rfl
  | @store u b v _ hb ih =>
    have hab : a ≠ b := (ne_of_mem_of_not_mem hb ha).symm
    exact (State.readByte_writeByte_other u hab v).trans ih
  | record _ _ ih => exact ih

theorem Reaches.read_of_readOnly (h : Reaches A hooks s.outer o) (ha : s.writable a = false) :
    Memory.read o.mem a.toNat = s.readByte a := by
  induction h with
  | refl => rfl
  | @store u b v hu _ ih =>
    have hua : u.writable a = false := (hu.writable a).trans ha
    exact (State.readByte_writeByte_readOnly hua b v).trans ih
  | record _ _ ih => exact ih

theorem Reaches.events (h : Reaches A hooks o o') : o.events <+: o'.events := by
  induction h with
  | refl => exact ⟨[], List.append_nil _⟩
  | store _ _ ih => exact ih
  | record _ _ ih => exact ih.trans ⟨_, rfl⟩

theorem Reaches.events_of_noHooks (h : Reaches A false o o') : o'.events = o.events ∧ o'.portInput = o.portInput := by
  induction h with
  | refl => exact ⟨rfl, rfl⟩
  | store _ _ ih => exact ih
  | record _ hhooks => cases hhooks

end

/-! ### What the operations do to the outer part -/

@[simp] theorem State.engine_outer (s : State) :
    (∀ len rinc, (s.fetched len rinc).outer = s.outer) ∧ (∀ x, (s.select x).outer = s.outer) ∧
    ∀ cost x, (s.retire cost x).outer = s.outer := ⟨fun _ _ => rfl, fun _ => rfl, fun _ _ => rfl⟩

theorem State.charge_outer (s : State) (n : Nat) : (s.charge n).outer = s.outer := rfl

theorem State.haltRewind_outer (s : State) : s.haltRewind.outer = s.outer := by
  simp [State.outer]

@[simp] theorem State.setByte_outer (s : State) (v : Byte) :
    (s.setA v).outer = s.outer ∧ (s.setF v).outer = s.outer ∧ (s.setB v).outer = s.outer ∧
    (∀ r, (s.setReg r v).outer = s.outer) ∧ ∀ h, (s.setHalf h v).outer = s.outer := by
  simp [State.outer]

@[simp] theorem State.setWord_outer (s : State) (v : Word) :
    (s.setBC v).outer = s.outer ∧ (s.setDE v).outer = s.outer ∧ (s.setHL v).outer = s.outer ∧
    (s.setHlx v).outer = s.outer ∧ (∀ p, (s.setPair p v).outer = s.outer) ∧
    ∀ p, (s.setStackPair p v).outer = s.outer := by
  simp [State.outer]

/-- A store of a word, a push and an exchange with the stack are two byte stores. -/
@[simp] theorem State.memory_outer (s : State) :
    (∀ a v, (s.writeWord a v).outer = ((s.writeByte a v.lo).writeByte (a + 1) v.hi).outer) ∧
    (∀ v, (s.push16 v).outer = ((s.writeByte (s.sp - 1) v.hi).writeByte (s.sp - 2) v.lo).outer) ∧
    s.exchangeTop.outer = ((s.writeByte (s.sp + 1) s.hlx.hi).writeByte s.sp s.hlx.lo).outer ∧
    s.pop16.2.outer = s.outer := by
  refine ⟨fun _ _ => rfl, fun v => ?_, ?_, rfl⟩
  · rw [State.push16_eq]
    rfl
  · simp [State.exchangeTop]

@[simp] theorem State.jump_outer (s : State) :
    (∀ v, (s.jumpTo v).outer = s.outer) ∧ (∀ v, (s.callTo v).outer = (s.push16 s.pc).outer) ∧
    s.popPC.outer = s.outer ∧ s.returnFromInterrupt.outer = s.outer ∧ (∀ e, (s.jumpRelative e).outer = s.outer) ∧
    s.rewindBlock.outer = s.outer ∧ s.decodeError.outer = s.outer :=
  ⟨fun _ => rfl, fun _ => rfl, rfl, rfl, fun _ => rfl, rfl, rfl⟩

/-- 20_memory.md R72: a port read and a port write are recorded once each. -/
@[simp] theorem State.hook_outer (s : State) :
    (∀ mask, (s.drawIntoF mask).outer = s.outer) ∧
    (∀ p, (s.ioRead p).2.outer = s.outer.record (.ioRead p (s.ioRead p).1) s.portInput.tail) ∧
    ∀ p v, (s.ioWrite p v).outer = s.outer.record (.ioWrite p v) s.portInput := by
  refine ⟨fun _ => rfl, fun p => ?_, fun _ _ => rfl⟩
  unfold State.ioRead
  split <;> simp [State.outer, OuterPart.record, *]

@[simp] theorem State.alu_outer (s : State) (v : Byte) :
    (s.aluAdd v).outer = s.outer ∧ (s.aluAdc v).outer = s.outer ∧ (s.aluSub v).outer = s.outer ∧
    (s.aluSbc v).outer = s.outer ∧ (s.aluAnd v).outer = s.outer ∧ (s.aluXor v).outer = s.outer ∧
    (s.aluOr v).outer = s.outer ∧ (s.aluCp v).outer = s.outer :=
  ⟨rfl, rfl, rfl, rfl, rfl, rfl, rfl, rfl⟩

@[simp] theorem State.arithmetic_outer (s : State) :
    (∀ res, (s.setAcc res).outer = s.outer) ∧ (∀ p, (s.addPair p).outer = s.outer) ∧
    (∀ r, (s.incReg r).outer = s.outer) ∧ (∀ r, (s.decReg r).outer = s.outer) ∧
    (∀ h, (s.incHalf h).outer = s.outer) ∧ (∀ h, (s.decHalf h).outer = s.outer) ∧
    (∀ op, (s.rotA op).outer = s.outer) ∧ (∀ op r, (s.rotReg op r).outer = s.outer) ∧
    ∀ op r, (s.mapReg op r).outer = s.outer := by
  simp [State.setAcc, State.addPair, State.incReg, State.decReg, State.incHalf, State.decHalf, State.rotA, State.rotReg,
    State.mapReg]

/-- An operation on the byte at an address stores there once, whatever it writes beside. -/
@[simp] theorem State.modify_outer (s : State) (a : Word) :
    (s.incMem a).outer = (s.writeByte a (inc8 s.main.f (s.readByte a)).1).outer ∧
    (s.decMem a).outer = (s.writeByte a (dec8 s.main.f (s.readByte a)).1).outer ∧
    (∀ op, (s.rotMem op a).outer = (s.writeByte a (op (s.readByte a) s.carry).1).outer) ∧
    (∀ op r, (s.rotMemCopy op a r).outer = (s.writeByte a (op (s.readByte a) s.carry).1).outer) ∧
    (∀ op, (s.mapMem op a).outer = (s.writeByte a (op (s.readByte a))).outer) ∧
    ∀ op r, (s.mapMemCopy op a r).outer = (s.writeByte a (op (s.readByte a))).outer :=
  ⟨rfl, rfl, fun _ => rfl, fun _ _ => rfl, fun _ => rfl, fun _ _ => rfl⟩

/-- 43_block.md R282, R286, R290, R294: the one store or port access of a block element. -/
@[simp] theorem State.element_outer (s : State) (inc : Word) :
    (s.loadElement inc).outer = (s.writeByte s.de (s.readByte s.hl)).outer ∧ (s.compareElement inc).outer = s.outer ∧
    (s.inputElement inc).outer = ((s.ioRead s.bc).2.writeByte s.hl (s.ioRead s.bc).1).outer ∧
    (s.outputElement inc).outer = (s.ioWrite (s.setB (s.main.b - 1)).bc (s.readByte s.hl)).outer :=
  ⟨rfl, rfl, rfl, rfl⟩

/-! ### What an instruction does to the outer part -/

/-- The rows that only send the decoder to another table (40_engine.md R165, R169, R170). -/
def sendsOn : Instr → Bool
  | .prefixCB _ => true
  | .prefixED _ _ _ => true
  | .prefixDD _ _ _ => true
  | .prefixFD _ _ _ => true
  | .ddCb _ _ => true
  | .fdCb _ _ => true
  | _ => false

theorem sendsOn_of_wellFormed {i : Instr} (h : i.wellFormed = true) : sendsOn i = false := by
  cases i
  case prefixCB | prefixED | prefixDD | prefixFD | ddCb | fdCb => cases h
  all_goals rfl

theorem sendsOn_of_fallThrough {i : Instr} {s t : State} (h : fallThrough i s = .next t) : sendsOn i = false := by
  cases i
  case prefixCB | prefixED | prefixDD | prefixFD | ddCb | fdCb => cases h
  all_goals rfl

@[simp] theorem State.select_indexed (s : State) (d : Byte) :
    (s.select .ix).indexed d = s.ix + sext16 d ∧ (s.select .iy).indexed d = s.iy + sext16 d := ⟨rfl, rfl⟩

/-- The addresses are computed from what a fetch leaves. -/
theorem storedTo_fetched (i : Instr) (s : State) (len rinc : Nat) : storedTo i (s.fetched len rinc) = storedTo i s := by
  induction i
  case fallThroughDD i ih | fallThroughFD i ih => exact ih
  case callCcNn cc _ => cases cc <;> rfl
  all_goals rfl

section
variable {A : List Word} {hooks : Bool} {o : OuterPart} {u t : State}

theorem reaches_of_retire {cost : Nat} {inhibit : Bool} (h : (.next (u.retire cost inhibit) : Result) = .next t)
    (hu : Reaches A hooks o u.outer) : Reaches A hooks o t.outer := by
  cases h
  exact hu

theorem reaches_of_branch {taken : Bool} {costTaken costNot : Nat} {effect : State → State}
    (h : branch taken costTaken costNot effect u = .next t) (hu : Reaches A hooks o u.outer)
    (he : taken = true → Reaches A hooks o (effect u).outer) : Reaches A hooks o t.outer := by
  cases taken with
  | true => exact reaches_of_retire h (he rfl)
  | false => exact reaches_of_retire h hu

theorem reaches_of_endElement {again : Bool} {mask : Byte} (h : u.endElement again mask = .next t)
    (hu : Reaches A hooks o u.outer) : Reaches A hooks o t.outer := by
  obtain rfl | rfl := State.endElement_next h
  · simpa using hu
  · exact hu

end

/-- Every row stores at the addresses `storedTo` computes and calls a hook only if it is a port instruction. -/
theorem exec_reaches {i : Instr} {s t : State} (hi : sendsOn i = false) (h : exec i s = .next t) :
    Reaches (storedTo i s) (usesPort i) s.outer t.outer := by
  induction i generalizing s t
  case fallThroughDD i ih | fallThroughFD i ih =>
    obtain ⟨u, hu, rfl⟩ := fallThrough_next h
    have hr := ih (sendsOn_of_fallThrough h) hu
    rw [storedTo_fetched] at hr
    exact hr
  case prefixCB | prefixDD | prefixED | prefixFD | ddCb | fdCb => cases hi
  case djnz | jrCc | jpCcNn | retCc =>
    simp only [exec, execDjnz, execJrCc, execJpCcNn, execRetCc] at h
    exact reaches_of_branch h (by simp [Reaches.refl]) (by simp [Reaches.refl])
  case callCcNn cc nn =>
    simp only [exec, execCallCcNn] at h
    refine reaches_of_branch h (by simp [Reaches.refl]) fun hcc => ?_
    have hA : storedTo (.callCcNn cc nn) s = [s.sp - 1, s.sp - 2] := if_pos hcc
    simp [hA, Reaches.refl, Reaches.store]
  case ldir | lddr =>
    exact reaches_of_endElement h (A := [s.de]) (by simp [Reaches.refl, Reaches.store])
  case inir | indr =>
    exact reaches_of_endElement h (A := [s.hl]) (hooks := true)
      (by simp [Reaches.refl, Reaches.store, Reaches.record])
  case cpir | cpdr => exact reaches_of_endElement h (by simp [Reaches.refl])
  case otir | otdr =>
    exact reaches_of_endElement h (hooks := true) (by simp [Reaches.refl, Reaches.record])
  case ldMemHlN | ldMemHlR | incMemHl | decMemHl | rlcMemHl | rrcMemHl | rlMemHl | rrMemHl | slaMemHl | sraMemHl |
      sllMemHl | srlMemHl | resMemHl | setMemHl | rld | rrd =>
    exact reaches_of_retire h (A := [s.hl]) (by simp [Reaches.refl, Reaches.store])
  case ldMemBcA =>
    exact reaches_of_retire h (A := [s.bc]) (by simp [Reaches.refl, Reaches.store])
  case ldMemDeA | ldi | ldd =>
    exact reaches_of_retire h (A := [s.de]) (by simp [Reaches.refl, Reaches.store])
  case ldMemNnA nn =>
    exact reaches_of_retire h (A := [nn]) (by simp [Reaches.refl, Reaches.store])
  case ldMemNnHl nn | ldMemNnRp _ nn | ldMemNnIx nn | ldMemNnIy nn =>
    exact reaches_of_retire h (A := [nn, nn + 1]) (by simp [Reaches.refl, Reaches.store])
  case pushRp2 | pushIx | pushIy | callNn | rst =>
    exact reaches_of_retire h (A := [s.sp - 1, s.sp - 2]) (by simp [Reaches.refl, Reaches.store])
  case exMemSpHl | exMemSpIx | exMemSpIy =>
    exact reaches_of_retire h (A := [s.sp, s.sp + 1]) (by simp [Reaches.refl, Reaches.store])
  case ldMemIxN d _ | ldMemIxR d _ | incMemIx d | decMemIx d | rlcMemIx d | rrcMemIx d | rlMemIx d | rrMemIx d |
      slaMemIx d | sraMemIx d | sllMemIx d | srlMemIx d | rlcMemIxR d _ | rrcMemIxR d _ | rlMemIxR d _ |
      rrMemIxR d _ | slaMemIxR d _ | sraMemIxR d _ | sllMemIxR d _ | srlMemIxR d _ | resMemIx _ d | setMemIx _ d |
      resMemIxR _ d _ | setMemIxR _ d _ =>
    exact reaches_of_retire h (A := [s.ix + sext16 d]) (by simp [Reaches.refl, Reaches.store])
  case ldMemIyN d _ | ldMemIyR d _ | incMemIy d | decMemIy d | rlcMemIy d | rrcMemIy d | rlMemIy d | rrMemIy d |
      slaMemIy d | sraMemIy d | sllMemIy d | srlMemIy d | rlcMemIyR d _ | rrcMemIyR d _ | rlMemIyR d _ |
      rrMemIyR d _ | slaMemIyR d _ | sraMemIyR d _ | sllMemIyR d _ | srlMemIyR d _ | resMemIy _ d | setMemIy _ d |
      resMemIyR _ d _ | setMemIyR _ d _ =>
    exact reaches_of_retire h (A := [s.iy + sext16 d]) (by simp [Reaches.refl, Reaches.store])
  case ini | ind =>
    exact reaches_of_retire h (A := [s.hl]) (hooks := true) (by simp [Reaches.refl, Reaches.store, Reaches.record])
  case inAN | inRC | inFC | outNA | outCR | outC0 | outi | outd =>
    exact reaches_of_retire h (hooks := true) (by simp [Reaches.refl, Reaches.record])
  case di | ei | halt | exAfAf | exx | ldSpHl | im0 | im1 | im2 | ldIA | ldRA | ldSpIx | ldSpIy =>
    exact reaches_of_retire h .refl
  all_goals exact reaches_of_retire h (by simp [Reaches.refl])

/-! ### The rows that send the decoder on: what they answer is the answer of a row of the table they send it to -/

theorem cbRow_next {i : Instr} {s t : State} (h : cbRow i s = .next t) : sendsOn i = false ∧ exec i s = .next t := by
  cases i <;> first | exact ⟨rfl, h⟩ | cases h

theorem edRow_next {i : Instr} {s t : State} (h : edRow i s = .next t) : sendsOn i = false ∧ exec i s = .next t := by
  cases i <;> first | exact ⟨rfl, h⟩ | cases h

theorem ddcbRow_next {i : Instr} {s t : State} (h : ddcbRow i s = .next t) : sendsOn i = false ∧ exec i s = .next t := by
  cases i <;> first | exact ⟨rfl, h⟩ | cases h

theorem fdcbRow_next {i : Instr} {s t : State} (h : fdcbRow i s = .next t) : sendsOn i = false ∧ exec i s = .next t := by
  cases i <;> first | exact ⟨rfl, h⟩ | cases h

theorem exec_of_ddRow {i : Instr} {s t : State} (h : ddRow i s = .next t) : exec i s = .next t := by
  cases i <;> first | exact h | cases h

theorem exec_of_fdRow {i : Instr} {s t : State} (h : fdRow i s = .next t) : exec i s = .next t := by
  cases i <;> first | exact h | cases h

/-- The DD table sends on to the DDCB table alone (40_engine.md R169). -/
theorem ddRow_next {i : Instr} {s t : State} (h : ddRow i s = .next t) : ∃ j, sendsOn j = false ∧ exec j s = .next t := by
  have he := exec_of_ddRow h
  cases i
  case prefixCB | prefixED | prefixDD | prefixFD | fdCb => cases h
  case ddCb => exact ⟨_, ddcbRow_next h⟩
  all_goals exact ⟨_, rfl, he⟩

/-- The FD table sends on to the FDCB table alone (40_engine.md R169). -/
theorem fdRow_next {i : Instr} {s t : State} (h : fdRow i s = .next t) : ∃ j, sendsOn j = false ∧ exec j s = .next t := by
  have he := exec_of_fdRow h
  cases i
  case prefixCB | prefixED | prefixDD | prefixFD | ddCb => cases h
  case fdCb => exact ⟨_, fdcbRow_next h⟩
  all_goals exact ⟨_, rfl, he⟩

/-- 40_engine.md R165, R169, R170: every instruction that completes does what a row that sends nothing on does. -/
theorem exec_next {i : Instr} {s t : State} (h : exec i s = .next t) : ∃ j, sendsOn j = false ∧ exec j s = .next t := by
  cases i
  case prefixCB => exact ⟨_, cbRow_next h⟩
  case prefixED => exact ⟨_, edRow_next h⟩
  case prefixDD => exact ddRow_next h
  case prefixFD => exact fdRow_next h
  case ddCb => exact ⟨_, ddcbRow_next h⟩
  case fdCb => exact ⟨_, fdcbRow_next h⟩
  all_goals exact ⟨_, rfl, h⟩

theorem exec_reaches_some {i : Instr} {s t : State} (h : exec i s = .next t) :
    ∃ A hooks, Reaches A hooks s.outer t.outer := by
  obtain ⟨j, hj, h⟩ := exec_next h
  exact ⟨_, _, exec_reaches hj h⟩

/-! ### What a boundary does to the outer part -/

/-- 40_engine.md R150: the instruction at PC after the halt rewind, then the boundary. -/
theorem step_next {s t : State} (h : step s = .next t) :
    ∃ u, exec s.haltRewind.instrAtPC s.haltRewind = .next u ∧ t = u.boundary := by
  unfold step at h
  cases he : exec s.haltRewind.instrAtPC s.haltRewind with
  | next u =>
    rw [he] at h
    cases h
    exact ⟨u, rfl, rfl⟩
  | fault f => cases f
  | refused r =>
    rw [he] at h
    cases h

/-- 60_exceptions.md R525: an acceptance stores PC below SP. -/
theorem State.takeInterrupt_outer (s : State) :
    s.takeInterrupt.outer = ((s.writeByte (s.sp - 1) s.pc.hi).writeByte (s.sp - 2) s.pc.lo).outer := by
  have hpush : s.takeInterrupt.outer = (s.push16 s.pc).outer := by
    simp only [State.takeInterrupt]
    split <;> rfl
  obtain ⟨-, hstores, -⟩ := State.memory_outer s
  exact hpush.trans (hstores s.pc)

theorem State.waitStates_outer (s : State) : s.waitStates.outer = s.outer := by
  unfold State.waitStates
  split <;> rfl

theorem State.tapeHook_idle {s : State} (h : s.tapeActive = false) : s.tapeHook = s := by
  simp [State.tapeHook, h]

theorem State.tapeHook_events (s : State) : s.events <+: s.tapeHook.events := by
  unfold State.tapeHook
  split
  · exact ⟨_, rfl⟩
  · exact ⟨[], List.append_nil _⟩

theorem State.rearm_reaches (s : State) (A : List Word) : Reaches A true s.outer s.rearm.outer := by
  unfold State.rearm
  split
  · exact Reaches.refl.record rfl (e := .hardwareSync) (l := s.portInput)
  · exact .refl

theorem Reaches.interruptCheck {o : OuterPart} {u : State} (hu : Reaches [u.sp - 1, u.sp - 2] true o u.outer) :
    Reaches [u.sp - 1, u.sp - 2] true o u.interruptCheck.outer := by
  unfold State.interruptCheck State.acceptCharged State.accept
  split
  · rw [State.charge_outer]
    split
    · rw [State.takeInterrupt_outer]
      exact (hu.store (by simp)).store (by simp)
    · exact hu
  · exact hu

/-- 40_engine.md R172, R173: after the tape hook a boundary only records the hardware sync and pushes PC. -/
theorem State.periodBoundary_reaches (s : State) : ∃ A, Reaches A true s.outer s.periodBoundary.outer := by
  unfold State.periodBoundary
  split
  · exact ⟨[], .refl⟩
  · exact ⟨_, (s.rearm_reaches _).interruptCheck⟩
  · exact ⟨[], .refl⟩

/-- A step: what its instruction does, the tape hook, what the boundary does after it. -/
theorem step_reaches {s t : State} (h : step s = .next t) :
    ∃ (u : State) (A B : List Word) (hooks : Bool),
      Reaches A hooks s.outer u.outer ∧ Reaches B true u.tapeHook.outer t.outer := by
  obtain ⟨u, hu, rfl⟩ := step_next h
  obtain ⟨A, hooks, hr⟩ := exec_reaches_some hu
  obtain ⟨B, hb⟩ := u.waitStates.tapeHook.periodBoundary_reaches
  rw [State.haltRewind_outer, ← State.waitStates_outer u] at hr
  exact ⟨u.waitStates, A, B, hooks, hr, hb⟩

end Sys2Proof.Machine

namespace Sys2Proof
open Machine

/-- Settles O6: the instruction and the boundary are byte stores, and the tape hook's stores keep the form too. -/
theorem stepKeepsInv : Obligations.StepKeepsInv := by
  intro s t hs h
  obtain ⟨u, A, B, hooks, hu, ht⟩ := step_reaches h
  exact ht.wf (State.tapeHook_wf (hu.wf hs))

/-- Settles O18: every store of the instruction is at an address of `storedTo`. -/
theorem memoryFrame : Obligations.MemoryFrame := by
  intro i s t hw h a ha
  exact (exec_reaches (sendsOn_of_wellFormed hw) h).read_of_notMem ha

/-- Settles O19: no store reaches a read-only byte, and outside a tape load a step changes memory by stores alone. -/
theorem readOnlyMemory : Obligations.ReadOnlyMemory := by
  constructor
  · intro i s t a h ha
    obtain ⟨A, hooks, hr⟩ := exec_reaches_some h
    exact hr.read_of_readOnly ha
  · intro s t a htape h ha
    obtain ⟨u, A, B, hooks, hu, ht⟩ := step_reaches h
    have hidle : u.tapeActive = false := (congrArg FixedPart.tapeActive hu.fixed).trans htape
    rw [State.tapeHook_idle hidle] at ht
    exact (ht.read_of_readOnly ((hu.writable a).trans ha)).trans (hu.read_of_readOnly ha)

/-- Settles O20: only a port instruction calls a hook, and every hook call is appended to the record. -/
theorem eventsFrame : Obligations.EventsFrame := by
  constructor
  · intro i s t hw h hport
    have hr := exec_reaches (sendsOn_of_wellFormed hw) h
    rw [hport] at hr
    exact hr.events_of_noHooks
  · intro s t h
    obtain ⟨u, A, B, hooks, hu, ht⟩ := step_reaches h
    obtain ⟨l, hl⟩ := (hu.events.trans (State.tapeHook_events u)).trans ht.events
    exact ⟨l, hl.symm⟩

/-- Settles O25: at a writable address by `State.readByte_writeByte_same`, elsewhere by the frame of a write. -/
theorem readAfterWrite : Obligations.ReadAfterWrite := by
  intro s a b v hs
  refine ⟨?_, State.writeByte_eq s a v⟩
  split
  case isTrue h =>
    obtain ⟨rfl, hw⟩ := h
    exact State.readByte_writeByte_same hs hw v
  case isFalse h =>
    by_cases hb : b = a
    · have hw : s.writable b = false := by simpa [hb] using h
      exact State.readByte_writeByte_readOnly hw a v
    · exact State.readByte_writeByte_other s hb v

end Sys2Proof
end

section
/-! The fields of an opcode byte (30_encoding.md R92 to R98): an opcode made of fields has those fields, and the code of an
operand names that operand. -/

namespace Sys2Proof

theorem opcode_toNat {x y z : Nat} (hx : x < 4) (hy : y < 8) (hz : z < 8) :
    (opcode x y z).toNat = 64 * x + 8 * y + z := by
  rw [opcode, BitVec.toNat_ofNat, Nat.mod_eq_of_lt (by omega)]

section
variable {x y z : Nat} (hx : x < 4) (hy : y < 8) (hz : z < 8)
include hx hy hz

@[simp] theorem fieldX_opcode : fieldX (opcode x y z) = x := by
  rw [fieldX, opcode_toNat hx hy hz]
  omega

@[simp] theorem fieldY_opcode : fieldY (opcode x y z) = y := by
  rw [fieldY, opcode_toNat hx hy hz]
  omega

@[simp] theorem fieldZ_opcode : fieldZ (opcode x y z) = z := by
  rw [fieldZ, opcode_toNat hx hy hz]
  omega

@[simp] theorem fieldP_opcode : fieldP (opcode x y z) = y / 2 := by
  rw [fieldP, opcode_toNat hx hy hz]
  omega

@[simp] theorem fieldQ_opcode : fieldQ (opcode x y z) = y % 2 := by
  rw [fieldQ, opcode_toNat hx hy hz]
  omega

@[simp] theorem finY_opcode : finY (opcode x y z) = ⟨y, hy⟩ :=
  Fin.ext (by rw [finY, fieldY_opcode hx hy hz, Fin.val_ofNat, Nat.mod_eq_of_lt hy])

@[simp] theorem finZ_opcode : finZ (opcode x y z) = ⟨z, hz⟩ :=
  Fin.ext (by rw [finZ, fieldZ_opcode hx hy hz, Fin.val_ofNat, Nat.mod_eq_of_lt hz])

end

@[simp] theorem Reg8.code_lt (r : Reg8) : r.code < 8 := by cases r <;> decide

@[simp] theorem Reg8.code_ne_six (r : Reg8) : r.code ≠ 6 := by cases r <;> decide

@[simp] theorem reg8OfCode_code (r : Reg8) : reg8OfCode r.code = r := by cases r <;> rfl

/-- 30_encoding.md R93: codes 4 and 5 are H and L. -/
theorem Reg8.code_of_plain {r : Reg8} (h : r.plain = true) : r.code ≠ 4 ∧ r.code ≠ 5 := by
  cases r
  case h | l => cases h
  all_goals decide

end Sys2Proof
end

section
/-! The decoder on the bytes of an instruction, one case per constructor: the decoder computes on each value of the operands
that the opcode byte holds; where those are two registers, or a bit number and a register, the fields of the byte give them
back. -/

namespace Sys2Proof
open Machine

/-- The instruction that `decode` reads at the start of a list of bytes. -/
def firstInstr (bytes : List Byte) : Instr :=
  decodeBytes (bytes.getD 0 0) (bytes.getD 1 0) (bytes.getD 2 0) (bytes.getD 3 0)

theorem decode_eq (bytes : List Byte) :
    decode bytes =
      if (encode (firstInstr bytes)).length ≤ bytes.length then
        .ok (firstInstr bytes) (bytes.drop (firstInstr bytes).length)
      else .rejected .truncated := rfl

/-- 30_encoding.md R99: a word is assembled from two bytes. -/
theorem Word.exists_mk (w : Word) : ∃ hi lo, w = Word.mk hi lo := ⟨w.hi, w.lo, (Word.mk_hi_lo w).symm⟩

/-! ### The table that a CB, DD or FD byte names (rules R102 to R105) -/

theorem decodeBytes_cb (op b2 b3 : Byte) : decodeBytes 0xCB op b2 b3 = resolveIndexedBit (cbTable op) := rfl

theorem decodeBytes_dd (op b2 b3 : Byte) : decodeBytes 0xDD op b2 b3 = resolveIndexedBit (ddTable op b2 b3) := rfl

theorem decodeBytes_fd (op b2 b3 : Byte) : decodeBytes 0xFD op b2 b3 = resolveIndexedBit (fdTable op b2 b3) := rfl

theorem decodeBytes_ddcb (d op : Byte) : decodeBytes 0xDD 0xCB d op = ddcbTable d op := rfl

theorem decodeBytes_fdcb (d op : Byte) : decodeBytes 0xFD 0xCB d op = fdcbTable d op := rfl

/-! ### The decoder after the encoder -/

/-- 30_encoding.md R104: a DD or FD byte before an instruction that does not name HL. -/
theorem firstInstr_fallThrough {i : Instr} (h : i.fallsThrough = true) (rest : List Byte) :
    firstInstr (0xDD :: (encode i ++ rest)) = .fallThroughDD i ∧
      firstInstr (0xFD :: (encode i ++ rest)) = .fallThroughFD i := by
  cases i
  all_goals simp only [firstInstr, encode, List.cons_append, List.getD_cons_zero, List.getD_cons_succ]
  case ldRR dst src =>
    obtain ⟨hd, hs⟩ : dst.plain = true ∧ src.plain = true := Bool.and_eq_true_iff.1 h
    rw [decodeBytes_dd, decodeBytes_fd]
    simp [resolveIndexedBit, ddTable, fdTable, ddQuarter1, fdQuarter1, unprefixedTable,
      quarter1, Reg8.code_of_plain hd, Reg8.code_of_plain hs]
  case ldMemNnA nn | ldAMemNn nn | jpNn nn | callNn nn =>
    obtain ⟨hi, lo, rfl⟩ := Word.exists_mk nn
    rw [Word.hi_mk, Word.lo_mk]
    exact ⟨rfl, rfl⟩
  case jpCcNn cc nn | callCcNn cc nn =>
    obtain ⟨hi, lo, rfl⟩ := Word.exists_mk nn
    rw [Word.hi_mk, Word.lo_mk]
    cases cc <;> exact ⟨rfl, rfl⟩
  case ldRpNn p nn =>
    obtain ⟨hi, lo, rfl⟩ := Word.exists_mk nn
    rw [Word.hi_mk, Word.lo_mk]
    cases p <;> first | exact ⟨rfl, rfl⟩ | cases h
  case incR r | decR r | ldRN r n | addAR r | adcAR r | subR r | sbcAR r | andR r | xorR r | orR r | cpR r =>
    cases r <;> first | exact ⟨rfl, rfl⟩ | cases h
  case incRp p | decRp p | popRp2 p | pushRp2 p => cases p <;> first | exact ⟨rfl, rfl⟩ | cases h
  case jrCc cc e => cases cc <;> first | exact ⟨rfl, rfl⟩ | cases h
  case retCc cc => cases cc <;> exact ⟨rfl, rfl⟩
  case rst y => fin_cases y <;> exact ⟨rfl, rfl⟩
  all_goals first | exact ⟨rfl, rfl⟩ | cases h

theorem firstInstr_encode {i : Instr} (hw : i.wellFormed = true) (rest : List Byte) :
    firstInstr (encode i ++ rest) = i := by
  cases i
  case fallThroughDD i => exact (firstInstr_fallThrough hw rest).1
  case fallThroughFD i => exact (firstInstr_fallThrough hw rest).2
  all_goals simp only [firstInstr, encode, List.cons_append, List.getD_cons_zero, List.getD_cons_succ]
  -- The fields of the opcode byte.
  case ldRR dst src => simp [decodeBytes, unprefixedTable, quarter1, resolvePrefix, resolveIndexedBit]
  case bitR | resR | setR | bitMemHl | resMemHl | setMemHl =>
    rw [decodeBytes_cb]
    simp [cbTable, resolveIndexedBit]
  case bitMemIx | resMemIx | resMemIxR | setMemIx | setMemIxR =>
    rw [decodeBytes_ddcb]
    simp [ddcbTable]
  case bitMemIy | resMemIy | resMemIyR | setMemIy | setMemIyR =>
    rw [decodeBytes_fdcb]
    simp [fdcbTable]
  -- A word behind the opcode byte.
  case ldMemNnHl nn | ldMemNnA nn | ldHlMemNn nn | ldAMemNn nn | jpNn nn | callNn nn | ldIxNn nn | ldMemNnIx nn |
      ldIxMemNn nn | ldIyNn nn | ldMemNnIy nn | ldIyMemNn nn =>
    obtain ⟨hi, lo, rfl⟩ := Word.exists_mk nn
    rw [Word.hi_mk, Word.lo_mk]
    rfl
  case jpCcNn cc nn | callCcNn cc nn =>
    obtain ⟨hi, lo, rfl⟩ := Word.exists_mk nn
    rw [Word.hi_mk, Word.lo_mk]
    cases cc <;> rfl
  case ldRpNn p nn | ldMemNnRp p nn | ldRpMemNn p nn =>
    obtain ⟨hi, lo, rfl⟩ := Word.exists_mk nn
    rw [Word.hi_mk, Word.lo_mk]
    cases p <;> rfl
  -- Operands in the opcode byte, each value in turn; a value that no encoding holds is not well formed.
  case addHlRp p | incRp p | decRp p | popRp2 p | pushRp2 p | sbcHlRp p | adcHlRp p | addIxRp p | addIyRp p =>
    cases p <;> rfl
  case retCc cc => cases cc <;> rfl
  case jrCc cc e => cases cc <;> first | rfl | cases hw
  case undefEd77 k => cases k <;> rfl
  case rst y | neg y | undefEdX0 y | undefEdX3 y => fin_cases y <;> rfl
  case retn y | im0 y | im1 y | im2 y | undefEdX2 y => fin_cases y <;> first | rfl | cases hw
  case incIxHalf h | decIxHalf h | ldIxHalfN h n | addAIxHalf h | adcAIxHalf h | subIxHalf h | sbcAIxHalf h | andIxHalf h |
      xorIxHalf h | orIxHalf h | cpIxHalf h | incIyHalf h | decIyHalf h | ldIyHalfN h n | addAIyHalf h | adcAIyHalf h |
      subIyHalf h | sbcAIyHalf h | andIyHalf h | xorIyHalf h | orIyHalf h | cpIyHalf h =>
    cases h <;> rfl
  case ldIxHalfR h r | ldIyHalfR h r => cases h <;> cases r <;> rfl
  case ldRIxHalf r h | ldRIyHalf r h => cases h <;> cases r <;> first | rfl | cases hw
  case incR r | decR r | ldRN r n | ldRMemHl r | ldMemHlR r | addAR r | adcAR r | subR r | sbcAR r | andR r | xorR r |
      orR r | cpR r | rlcR r | rrcR r | rlR r | rrR r | slaR r | sraR r | sllR r | srlR r | inRC r | outCR r | ldRMemIx r d |
      ldMemIxR d r | ldRMemIy r d | ldMemIyR d r | rlcMemIxR d r | rrcMemIxR d r | rlMemIxR d r | rrMemIxR d r |
      slaMemIxR d r | sraMemIxR d r | sllMemIxR d r | srlMemIxR d r | rlcMemIyR d r | rrcMemIyR d r | rlMemIyR d r |
      rrMemIyR d r | slaMemIyR d r | sraMemIyR d r | sllMemIyR d r | srlMemIyR d r =>
    cases r <;> rfl
  -- The rows that send the decoder on are not well formed, and the other rows hold bytes alone.
  case prefixCB | prefixDD | prefixED | prefixFD | ddCb | fdCb => cases hw
  all_goals rfl

/-- Settles O1: the instruction at the start of its own bytes is the instruction itself, one constructor after another. -/
theorem decodeOfEncode : Obligations.DecodeOfEncode := by
  intro i rest hw
  rw [decode_eq, firstInstr_encode hw, if_pos (by simp)]

/-- Settles O3: the words are encodings, except the last, which ends inside its instruction. -/
theorem decodedWords : Obligations.DecodedWords :=
  ⟨decodeOfEncode (.ldRR .b .c) [] rfl, decodeOfEncode (.ldRpNn .hl 0x1234) [] rfl, decodeOfEncode .ldir [] rfl,
    decodeOfEncode (.subIyHalf .low) [] rfl, decodeOfEncode (.sbcHlRp .sp) [] rfl,
    decodeOfEncode (.bitMemIx 0 0xFE 6) [] rfl, decodeOfEncode (.jrCc .nz 0xFC) [] rfl, decodeOfEncode (.outCR .l) [] rfl,
    decodeOfEncode (.fallThroughDD .halt) [] rfl, decodeOfEncode .danglingDdEd [] rfl, rfl⟩

end Sys2Proof
end


section
/-! The bytes of the instruction that a table answers: each table's rows encode to the bytes they were looked up with
(30_encoding.md R101 to R105). -/

namespace Sys2Proof
open Machine

/-! ### From the bytes to their fields, and from a code to its operand -/

/-- 30_encoding.md R92: every byte is the opcode of three fields. -/
theorem exists_opcode (op : Byte) : ∃ x < 4, ∃ y < 8, ∃ z < 8, op = opcode x y z := by
  have hop := op.isLt
  refine ⟨op.toNat / 64, by omega, op.toNat / 8 % 8, by omega, op.toNat % 8, by omega, BitVec.eq_of_toNat_eq ?_⟩
  rw [opcode_toNat (by omega) (by omega) (by omega)]
  omega

/-- 30_encoding.md R99: two bytes are the low and the high byte of a word. -/
theorem exists_word (lo hi : Byte) : ∃ nn : Word, lo = nn.lo ∧ hi = nn.hi :=
  ⟨Word.mk hi lo, (Word.lo_mk hi lo).symm, (Word.hi_mk hi lo).symm⟩

theorem code_reg8OfCode : ∀ n < 8, n ≠ 6 → (reg8OfCode n).code = n := by decide

theorem code_condOfCode : ∀ n < 8, (condOfCode n).code = n := by decide

theorem code_halfOfCode {n : Nat} (h : n = 4 ∨ n = 5) : (halfOfCode n).code = n := by
  rcases h with rfl | rfl <;> rfl

theorem code_pairOfCode : ∀ n < 4, (pairOfCode n).code = n := by decide

/-- 30_encoding.md R92, R94: `y = 2p + q`, with `p` the code of the pair. -/
theorem two_mul_code_pairOfCode {y : Nat} (hy : y < 8) :
    (y % 2 = 0 → 2 * (pairOfCode (y / 2)).code = y) ∧ (y % 2 ≠ 0 → 2 * (pairOfCode (y / 2)).code + 1 = y) := by
  rw [code_pairOfCode _ (by omega)]
  omega

/-! ### The unprefixed table -/

/-- The instruction is one that an encoding holds, and the bytes begin with its own. -/
def Instr.Begins (i : Instr) (bytes : List Byte) : Prop := i.wellFormed = true ∧ encode i <+: bytes

/-- A row of the unprefixed table, among them the rows that send the decoder on. -/
def Instr.RowAt (i : Instr) (bytes : List Byte) : Prop := (i.wellFormed || sendsOn i) = true ∧ encode i <+: bytes

section
variable {y z : Nat} (hy : y < 8) (hz : z < 8) (r : Reg8) (b1 b2 b3 : Byte) (nn : Word) (bytes : List Byte)
include hy

theorem rowAt_aluRegRow : (aluRegRow y r).RowAt (opcode 2 y r.code :: bytes) := by
  interval_cases y <;> exact ⟨rfl, _, rfl⟩

theorem rowAt_aluMemRow : (aluMemRow y).RowAt (opcode 2 y 6 :: bytes) := by
  interval_cases y <;> exact ⟨rfl, _, rfl⟩

theorem rowAt_aluImmRow : (aluImmRow y b1).RowAt (opcode 3 y 6 :: b1 :: bytes) := by
  interval_cases y <;> exact ⟨rfl, _, rfl⟩

theorem rowAt_column00Row : (column00Row y b1).RowAt (opcode 0 y 0 :: b1 :: bytes) := by
  interval_cases y <;> exact ⟨rfl, _, rfl⟩

theorem rowAt_column02Row : (column02Row y nn).RowAt (opcode 0 y 2 :: nn.lo :: nn.hi :: bytes) := by
  interval_cases y <;> exact ⟨rfl, _, rfl⟩

theorem rowAt_column07Row : (column07Row y).RowAt (opcode 0 y 7 :: bytes) := by
  interval_cases y <;> exact ⟨rfl, _, rfl⟩

theorem rowAt_column31Row : (column31Row y).RowAt (opcode 3 y 1 :: bytes) := by
  interval_cases y <;> exact ⟨rfl, _, rfl⟩

theorem rowAt_column33Row : (column33Row y nn.lo nn).RowAt (opcode 3 y 3 :: nn.lo :: nn.hi :: bytes) := by
  interval_cases y <;> exact ⟨rfl, _, rfl⟩

theorem rowAt_column35Row : (column35Row y nn.lo nn.hi b3).RowAt (opcode 3 y 5 :: nn.lo :: nn.hi :: b3 :: bytes) := by
  interval_cases y
  all_goals
    simp only [column35Row, Word.mk_hi_lo]
    exact ⟨rfl, _, rfl⟩

include hz

theorem rowAt_quarter0 : (quarter0 (opcode 0 y z) b1 b2).RowAt (opcode 0 y z :: b1 :: b2 :: bytes) := by
  obtain ⟨nn, rfl, rfl⟩ := exists_word b1 b2
  obtain ⟨heven, hodd⟩ := two_mul_code_pairOfCode hy
  interval_cases z
  all_goals
    simp only [quarter0, fieldY_opcode, fieldZ_opcode, fieldP_opcode, fieldQ_opcode, hy, Nat.reduceLT, Word.mk_hi_lo]
  · exact rowAt_column00Row hy _ _
  · split_ifs with h <;> simp [Instr.RowAt, encode, h, heven, hodd, Instr.wellFormed]
  · exact rowAt_column02Row hy nn _
  · split_ifs with h <;> simp [Instr.RowAt, encode, h, heven, hodd, Instr.wellFormed]
  · split_ifs with h <;> simp [Instr.RowAt, encode, h, code_reg8OfCode y hy, Instr.wellFormed, opcode]
  · split_ifs with h <;> simp [Instr.RowAt, encode, h, code_reg8OfCode y hy, Instr.wellFormed, opcode]
  · split_ifs with h <;> simp [Instr.RowAt, encode, h, code_reg8OfCode y hy, Instr.wellFormed, opcode]
  · exact rowAt_column07Row hy _

theorem rowAt_quarter1 : (quarter1 (opcode 1 y z)).RowAt (opcode 1 y z :: bytes) := by
  simp only [quarter1, fieldY_opcode, fieldZ_opcode, hy, hz, Nat.reduceLT]
  split_ifs with hy6 hz6 hz6
  · rw [hy6, hz6]
    exact ⟨rfl, _, rfl⟩
  · simp [Instr.RowAt, encode, hy6, code_reg8OfCode z hz hz6, Instr.wellFormed]
  · simp [Instr.RowAt, encode, hz6, code_reg8OfCode y hy hy6, Instr.wellFormed]
  · simp [Instr.RowAt, encode, code_reg8OfCode y hy hy6, code_reg8OfCode z hz hz6, Instr.wellFormed]

theorem rowAt_quarter2 : (quarter2 (opcode 2 y z)).RowAt (opcode 2 y z :: bytes) := by
  simp only [quarter2, fieldY_opcode, fieldZ_opcode, hy, hz, Nat.reduceLT]
  split
  case isTrue h =>
    rw [h]
    exact rowAt_aluMemRow hy _
  case isFalse h =>
    have hrow := rowAt_aluRegRow hy (reg8OfCode z) bytes
    rwa [code_reg8OfCode z hz h] at hrow

theorem rowAt_quarter3 : (quarter3 (opcode 3 y z) b1 b2 b3).RowAt [opcode 3 y z, b1, b2, b3] := by
  obtain ⟨nn, rfl, rfl⟩ := exists_word b1 b2
  interval_cases z
  all_goals
    simp only [quarter3, fieldY_opcode, fieldZ_opcode, finY_opcode, hy, Nat.reduceLT, Word.mk_hi_lo]
  · simp [Instr.RowAt, encode, code_condOfCode y hy, Instr.wellFormed]
  · exact rowAt_column31Row hy _
  · simp [Instr.RowAt, encode, code_condOfCode y hy, Instr.wellFormed]
  · exact rowAt_column33Row hy nn _
  · simp [Instr.RowAt, encode, code_condOfCode y hy, Instr.wellFormed]
  · exact rowAt_column35Row hy b3 nn _
  · exact rowAt_aluImmRow hy _ _
  · exact ⟨rfl, _, rfl⟩

end

/-- 30_encoding.md R101, by the field `x`. -/
theorem rowAt_unprefixedTable (op b1 b2 b3 : Byte) : (unprefixedTable op b1 b2 b3).RowAt [op, b1, b2, b3] := by
  obtain ⟨x, hx, y, hy, z, hz, rfl⟩ := exists_opcode op
  simp only [unprefixedTable, fieldX_opcode, hx, hy, hz]
  interval_cases x
  · exact rowAt_quarter0 hy hz b1 b2 _
  · exact rowAt_quarter1 hy hz _
  · exact rowAt_quarter2 hy hz _
  · exact rowAt_quarter3 hy hz b1 b2 b3

/-! ### The CB and ED tables -/

theorem begins_rotRegRow {y : Nat} (hy : y < 8) (r : Reg8) : (rotRegRow y r).Begins [0xCB, opcode 0 y r.code] := by
  interval_cases y <;> exact ⟨rfl, _, rfl⟩

theorem begins_rotMemRow {y : Nat} (hy : y < 8) : (rotMemRow y).Begins [0xCB, opcode 0 y 6] := by
  interval_cases y <;> exact ⟨rfl, _, rfl⟩

theorem begins_cbTable (op : Byte) : (cbTable op).Begins [0xCB, op] := by
  obtain ⟨x, hx, y, hy, z, hz, rfl⟩ := exists_opcode op
  interval_cases x
  all_goals
    simp only [cbTable, fieldX_opcode, fieldY_opcode, fieldZ_opcode, finY_opcode, hy, hz, Nat.reduceLT]
    split_ifs with h
  · rw [h]
    exact begins_rotMemRow hy
  · have hrow := begins_rotRegRow hy (reg8OfCode z)
    rwa [code_reg8OfCode z hz h] at hrow
  all_goals simp [Instr.Begins, encode, h, code_reg8OfCode z hz, Instr.wellFormed]

theorem begins_imRow (y : Fin 8) (bytes : List Byte) : (imRow y).Begins (0xED :: opcode 1 y.val 6 :: bytes) := by
  fin_cases y <;> exact ⟨rfl, _, rfl⟩

theorem begins_edColumn7Row {y : Nat} (hy : y < 8) (bytes : List Byte) :
    (edColumn7Row y).Begins (0xED :: opcode 1 y 7 :: bytes) := by
  interval_cases y <;> exact ⟨rfl, _, rfl⟩

theorem begins_blockRow {y z : Nat} (hy : y < 8) (hz : z < 4) (h : 4 ≤ y) (bytes : List Byte) :
    (blockRow (4 * (y - 4) + z)).Begins (0xED :: opcode 2 y z :: bytes) := by
  interval_cases y <;> interval_cases z <;> exact ⟨rfl, _, rfl⟩

theorem begins_edQuarter1 {y z : Nat} (hy : y < 8) (hz : z < 8) (b1 b2 : Byte) :
    (edQuarter1 (opcode 1 y z) b1 b2).Begins [0xED, opcode 1 y z, b1, b2] := by
  obtain ⟨nn, rfl, rfl⟩ := exists_word b1 b2
  obtain ⟨heven, hodd⟩ := two_mul_code_pairOfCode hy
  interval_cases z
  all_goals
    simp only [edQuarter1, fieldY_opcode, fieldZ_opcode, fieldP_opcode, fieldQ_opcode, finY_opcode, hy, Nat.reduceLT,
      Word.mk_hi_lo]
  · split_ifs with h <;> simp [Instr.Begins, encode, h, code_reg8OfCode y hy, Instr.wellFormed, opcode]
  · split_ifs with h <;> simp [Instr.Begins, encode, h, code_reg8OfCode y hy, Instr.wellFormed, opcode]
  · split_ifs with h <;> simp [Instr.Begins, encode, h, heven, hodd, Instr.wellFormed]
  · split_ifs with h <;> simp [Instr.Begins, encode, h, heven, hodd, Instr.wellFormed]
  · exact ⟨rfl, _, rfl⟩
  · split_ifs with h <;> simp [Instr.Begins, encode, h, Instr.wellFormed, opcode, Fin.ext_iff]
  · exact begins_imRow ⟨y, hy⟩ _
  · exact begins_edColumn7Row hy _

/-- 30_encoding.md R103: the number of an undefined ED opcode is the opcode without its two top bits. -/
theorem undefNumber_eq {x y z : Nat} (hy : y < 8) (hz : z < 8) :
    Fin.ofNat 64 (64 * x + 8 * y + z) = ⟨8 * y + z, by omega⟩ :=
  Fin.ext (show (64 * x + 8 * y + z) % 64 = 8 * y + z by omega)

theorem begins_edTable (op b1 b2 : Byte) : (edTable op b1 b2).Begins [0xED, op, b1, b2] := by
  obtain ⟨x, hx, y, hy, z, hz, rfl⟩ := exists_opcode op
  interval_cases x
  all_goals
    simp only [edTable, fieldX_opcode, fieldY_opcode, fieldZ_opcode, opcode_toNat, undefNumber_eq, hy, hz, Nat.reduceLT]
  · simp [Instr.Begins, encode, Instr.wellFormed, opcode]
  · exact begins_edQuarter1 hy hz b1 b2
  · split_ifs with h
    · obtain ⟨hblock, hz4⟩ := h
      exact begins_blockRow hy hz4 hblock _
    · simp [Instr.Begins, encode, Instr.wellFormed, opcode, Nat.add_assoc]
      omega
  · simp [Instr.Begins, encode, Instr.wellFormed, opcode, Nat.add_assoc]

/-! ### The tables behind a DD or FD byte, which differ only in the index register -/

/-- `i` is the DD row and `j` the FD row for the bytes after it, both looked up in the next table where they send the
decoder on. -/
def IndexRows (i j : Instr) (bytes : List Byte) : Prop :=
  (resolveIndexedBit i).Begins (0xDD :: bytes) ∧ (resolveIndexedBit j).Begins (0xFD :: bytes)

section
variable {y z : Nat} (hy : y < 8) (hz : z < 8) (d : Byte) (bytes : List Byte)
include hy

theorem begins_rotMemIndexRow :
    (rotMemIxRow y d).Begins [0xDD, 0xCB, d, opcode 0 y 6] ∧ (rotMemIyRow y d).Begins [0xFD, 0xCB, d, opcode 0 y 6] := by
  interval_cases y <;> exact ⟨⟨rfl, _, rfl⟩, rfl, _, rfl⟩

theorem begins_rotMemIndexCopyRow (r : Reg8) :
    (rotMemIxCopyRow y d r).Begins [0xDD, 0xCB, d, opcode 0 y r.code] ∧
      (rotMemIyCopyRow y d r).Begins [0xFD, 0xCB, d, opcode 0 y r.code] := by
  interval_cases y <;> exact ⟨⟨rfl, _, rfl⟩, rfl, _, rfl⟩

theorem indexRows_aluHalf (h : Half) : IndexRows (aluIxHalfRow y h) (aluIyHalfRow y h) (opcode 2 y h.code :: bytes) := by
  interval_cases y <;> exact ⟨⟨rfl, _, rfl⟩, rfl, _, rfl⟩

theorem indexRows_aluMem : IndexRows (aluIxMemRow y d) (aluIyMemRow y d) (opcode 2 y 6 :: d :: bytes) := by
  interval_cases y <;> exact ⟨⟨rfl, _, rfl⟩, rfl, _, rfl⟩
end

theorem begins_indexedBitTable (d op : Byte) :
    (ddcbTable d op).Begins [0xDD, 0xCB, d, op] ∧ (fdcbTable d op).Begins [0xFD, 0xCB, d, op] := by
  obtain ⟨x, hx, y, hy, z, hz, rfl⟩ := exists_opcode op
  interval_cases x
  all_goals
    simp only [ddcbTable, fdcbTable, fieldX_opcode, fieldY_opcode, fieldZ_opcode, finY_opcode, finZ_opcode, hy, hz,
      Nat.reduceLT]
  · split_ifs with h
    · rw [h]
      exact begins_rotMemIndexRow hy d
    · have hrow := begins_rotMemIndexCopyRow hy d (reg8OfCode z)
      rwa [code_reg8OfCode z hz h] at hrow
  · exact ⟨⟨rfl, _, rfl⟩, rfl, _, rfl⟩
  all_goals split_ifs with h <;> simp [Instr.Begins, encode, h, code_reg8OfCode z hz, Instr.wellFormed]

/-! #### The DD and FD tables, by the field `x`

`f` and `g` stand for the rows of an opcode that is not substituted; they are asked for only where the unprefixed row falls
through. -/

/-- 30_encoding.md R93: codes 4 and 5 are H and L. -/
theorem plain_reg8OfCode : ∀ n < 8, ¬(n = 4 ∨ n = 5) → (reg8OfCode n).plain = true := by decide

section
variable {y z : Nat} (hy : y < 8) (hz : z < 8) (b1 b2 : Byte) {f g : Instr}
include hy hz

theorem indexRows_quarter0
    (hfall : (quarter0 (opcode 0 y z) b1 b2).fallsThrough = true → IndexRows f g [opcode 0 y z, b1, b2]) :
    IndexRows (ddQuarter0 (opcode 0 y z) b1 b2 f) (fdQuarter0 (opcode 0 y z) b1 b2 g) [opcode 0 y z, b1, b2] := by
  obtain ⟨nn, rfl, rfl⟩ := exists_word b1 b2
  interval_cases z
  all_goals
    simp only [ddQuarter0, fdQuarter0, quarter0, fieldY_opcode, fieldZ_opcode, fieldP_opcode, fieldQ_opcode, hy,
      Nat.reduceLT, Word.mk_hi_lo] at hfall ⊢
    -- Each opcode falls through or is substituted.
    interval_cases y <;> first | exact hfall rfl | exact ⟨⟨rfl, _, rfl⟩, rfl, _, rfl⟩

theorem indexRows_quarter1
    (hfall : (quarter1 (opcode 1 y z)).fallsThrough = true → IndexRows f g [opcode 1 y z, b1, b2]) :
    IndexRows (ddQuarter1 (opcode 1 y z) b1 f) (fdQuarter1 (opcode 1 y z) b1 g) [opcode 1 y z, b1, b2] := by
  simp only [ddQuarter1, fdQuarter1, quarter1, fieldY_opcode, fieldZ_opcode, hy, hz, Nat.reduceLT] at hfall ⊢
  split_ifs with hy6 hz6 hz6 hyHalf hzHalf
  · rw [if_pos hy6, if_pos hz6] at hfall
    exact hfall rfl
  · simp [IndexRows, resolveIndexedBit, Instr.Begins, encode, code_reg8OfCode z hz hz6, hy6, Instr.wellFormed]
  · simp [IndexRows, resolveIndexedBit, Instr.Begins, encode, code_reg8OfCode y hy hy6, hz6, Instr.wellFormed]
  · simp [IndexRows, resolveIndexedBit, Instr.Begins, encode, code_halfOfCode hyHalf, code_reg8OfCode z hz hz6,
      Instr.wellFormed]
  · simp [IndexRows, resolveIndexedBit, Instr.Begins, encode, code_halfOfCode hzHalf, code_reg8OfCode y hy hy6,
      plain_reg8OfCode y hy hyHalf, Instr.wellFormed]
  · rw [if_neg hy6, if_neg hz6] at hfall
    exact hfall (Bool.and_eq_true_iff.2 ⟨plain_reg8OfCode y hy hyHalf, plain_reg8OfCode z hz hzHalf⟩)

theorem indexRows_quarter2
    (hfall : (quarter2 (opcode 2 y z)).fallsThrough = true → IndexRows f g [opcode 2 y z, b1, b2]) :
    IndexRows (ddQuarter2 (opcode 2 y z) b1 f) (fdQuarter2 (opcode 2 y z) b1 g) [opcode 2 y z, b1, b2] := by
  simp only [ddQuarter2, fdQuarter2, quarter2, fieldY_opcode, fieldZ_opcode, hy, hz, Nat.reduceLT] at hfall ⊢
  split_ifs with hz6 hzHalf
  · subst hz6
    exact indexRows_aluMem hy b1 [b2]
  · have hrow := indexRows_aluHalf hy [b1, b2] (halfOfCode z)
    rwa [code_halfOfCode hzHalf] at hrow
  · rw [if_neg hz6] at hfall
    refine hfall ?_
    have hplain := plain_reg8OfCode z hz hzHalf
    interval_cases y <;> exact hplain

theorem indexRows_quarter3
    (hfall : (quarter3 (opcode 3 y z) b1 b2 0).fallsThrough = true → IndexRows f g [opcode 3 y z, b1, b2]) :
    IndexRows (ddQuarter3 (opcode 3 y z) b1 b2 f) (fdQuarter3 (opcode 3 y z) b1 b2 g) [opcode 3 y z, b1, b2] := by
  -- Each opcode falls through, is substituted or dangles, or sends the decoder to the DDCB and FDCB tables.
  interval_cases z <;> interval_cases y <;>
    first | exact hfall rfl | exact ⟨⟨rfl, _, rfl⟩, rfl, _, rfl⟩ | exact begins_indexedBitTable b1 b2

end

/-- 40_engine.md R167: the rows that a DD or FD byte leaves as they are. -/
theorem indexRows_fallThrough {op b1 b2 : Byte} (h : (unprefixedTable op b1 b2 0).fallsThrough = true) :
    IndexRows (.fallThroughDD (unprefixedTable op b1 b2 0)) (.fallThroughFD (unprefixedTable op b1 b2 0)) [op, b1, b2] := by
  obtain ⟨-, hlen⟩ := Laws.encode_length_of_fallsThrough _ h
  have hrow : encode (unprefixedTable op b1 b2 0) <+: [op, b1, b2] := by
    obtain ⟨-, hfour⟩ := rowAt_unprefixedTable op b1 b2 0
    exact List.prefix_of_prefix_length_le hfour ⟨[0], rfl⟩ hlen
  exact ⟨⟨h, List.cons_prefix_cons.2 ⟨rfl, hrow⟩⟩, h, List.cons_prefix_cons.2 ⟨rfl, hrow⟩⟩

theorem indexRows_table (op b1 b2 : Byte) : IndexRows (ddTable op b1 b2) (fdTable op b1 b2) [op, b1, b2] := by
  have hfall := @indexRows_fallThrough op b1 b2
  obtain ⟨x, hx, y, hy, z, hz, rfl⟩ := exists_opcode op
  interval_cases x
  all_goals simp only [ddTable, fdTable, unprefixedTable, fieldX_opcode, hy, hz, Nat.reduceLT] at hfall ⊢
  · exact indexRows_quarter0 hy hz b1 b2 hfall
  · exact indexRows_quarter1 hy hz b1 b2 hfall
  · exact indexRows_quarter2 hy hz b1 b2 hfall
  · exact indexRows_quarter3 hy hz b1 b2 hfall

/-! ### The whole decoder -/

theorem Instr.Begins.mono {i : Instr} {bytes more : List Byte} (h : i.Begins bytes) (hp : bytes <+: more) : i.Begins more :=
  ⟨h.1, h.2.trans hp⟩

theorem resolve_of_wellFormed {i : Instr} (h : i.wellFormed = true) :
    resolvePrefix i = i ∧ resolveIndexedBit i = i := by
  cases i
  case prefixCB | prefixDD | prefixED | prefixFD | ddCb | fdCb => cases h
  all_goals exact ⟨rfl, rfl⟩

/-- 40_engine.md R165, R169, R170: a row that sends the decoder on holds the bytes of the row it is sent to. -/
theorem Instr.RowAt.resolved {i : Instr} {bytes : List Byte} (h : i.RowAt bytes) :
    (resolveIndexedBit (resolvePrefix i)).Begins bytes := by
  obtain ⟨hrow, hbytes⟩ := h
  cases hw : i.wellFormed with
  | true =>
    obtain ⟨hprefix, hbit⟩ := resolve_of_wellFormed hw
    rw [hprefix, hbit]
    exact ⟨hw, hbytes⟩
  | false =>
    have hs : sendsOn i = true := by simpa [hw] using hrow
    cases i
    case prefixCB op =>
      have hcb := begins_cbTable op
      rw [resolvePrefix, (resolve_of_wellFormed hcb.1).2]
      exact hcb.mono hbytes
    case prefixED op b1 b2 =>
      have hed := begins_edTable op b1 b2
      rw [resolvePrefix, (resolve_of_wellFormed hed.1).2]
      exact hed.mono hbytes
    case prefixDD op b1 b2 => exact (indexRows_table op b1 b2).1.mono hbytes
    case prefixFD op b1 b2 => exact (indexRows_table op b1 b2).2.mono hbytes
    case ddCb d op => exact (begins_indexedBitTable d op).1.mono hbytes
    case fdCb d op => exact (begins_indexedBitTable d op).2.mono hbytes
    all_goals cases hs

theorem begins_decodeBytes (b0 b1 b2 b3 : Byte) : (decodeBytes b0 b1 b2 b3).Begins [b0, b1, b2, b3] :=
  (rowAt_unprefixedTable b0 b1 b2 b3).resolved

/-- 30_encoding.md R90, 40_engine.md R168: an instruction takes all of its bytes, or, where it dangles, its first byte alone. -/
theorem Instr.length_bounds (i : Instr) : 1 ≤ i.length ∧ i.length ≤ (encode i).length := by
  cases i
  case danglingDdDd | danglingDdFd | danglingDdEd | danglingFdDd | danglingFdFd | danglingFdEd => decide
  all_goals exact ⟨Nat.succ_pos _, Nat.le_refl _⟩

/-- Settles O2: the bytes are looked up in the unprefixed table, and in the tables that its rows send the decoder to. -/
theorem decoderSound : Obligations.DecoderSound := by
  intro b0 b1 b2 b3
  obtain ⟨hw, hbytes⟩ := begins_decodeBytes b0 b1 b2 b3
  obtain ⟨hpos, hle⟩ := (decodeBytes b0 b1 b2 b3).length_bounds
  exact ⟨hw, hpos, hle, hbytes.length_le, List.prefix_iff_eq_take.1 hbytes⟩

end Sys2Proof
end

section
/-! The end of an instruction (40_engine.md R160, R165, R171): a `retire` after operations that let no cycle pass. One lemma
says it of every row, with the row's cost bounded and its interrupt inhibit named. -/

namespace Sys2Proof.Machine

/-- The cycle counter, the run-local counter and the count of draws (10_state.md R32; 40_engine.md R151; log entry 12). -/
structure ClockPart where
  iCount : Count
  elapsed : Int
  draws : Nat

/-- The clock part of a state. -/
def State.clock (s : State) : ClockPart := { iCount := s.iCount, elapsed := s.elapsed, draws := s.draws }

/-- `n` more free values drawn. -/
def ClockPart.drawn (c : ClockPart) (n : Nat) : ClockPart := { c with draws := c.draws + n }

/-- `c'` is `c` after some draws: no cycle has passed. -/
def ClockPart.Draws (c c' : ClockPart) : Prop := ∃ n, c' = c.drawn n

@[simp] theorem ClockPart.draws_self (c : ClockPart) : c.Draws c := ⟨0, rfl⟩

@[simp] theorem ClockPart.draws_drawn (c : ClockPart) (n : Nat) : c.Draws (c.drawn n) := ⟨n, rfl⟩

theorem ClockPart.Draws.drawn {c c' : ClockPart} (h : c.Draws c') (n : Nat) : c.Draws (c'.drawn n) := by
  obtain ⟨m, rfl⟩ := h
  exact ⟨m + n, by simp [ClockPart.drawn, Nat.add_assoc]⟩

/-! ### No operation of an instruction lets a cycle pass -/

@[simp] theorem State.fetch_clock (s : State) :
    (∀ len rinc, (s.fetched len rinc).clock = s.clock) ∧ ∀ x, (s.select x).clock = s.clock :=
  ⟨fun _ _ => rfl, fun _ => rfl⟩

theorem State.haltRewind_clock (s : State) : s.haltRewind.clock = s.clock := by
  simp [State.clock]

@[simp] theorem State.setByte_clock (s : State) (v : Byte) :
    (s.setA v).clock = s.clock ∧ (s.setF v).clock = s.clock ∧ (s.setB v).clock = s.clock ∧
    (∀ r, (s.setReg r v).clock = s.clock) ∧ ∀ h, (s.setHalf h v).clock = s.clock := by
  simp [State.clock]

@[simp] theorem State.setWord_clock (s : State) (v : Word) :
    (s.setBC v).clock = s.clock ∧ (s.setDE v).clock = s.clock ∧ (s.setHL v).clock = s.clock ∧
    (s.setHlx v).clock = s.clock ∧ (∀ p, (s.setPair p v).clock = s.clock) ∧
    ∀ p, (s.setStackPair p v).clock = s.clock := by
  simp [State.clock]

@[simp] theorem State.memory_clock (s : State) :
    (∀ a v, (s.writeByte a v).clock = s.clock) ∧ (∀ a v, (s.writeWord a v).clock = s.clock) ∧
    (∀ v, (s.push16 v).clock = s.clock) ∧ s.pop16.2.clock = s.clock ∧ s.exchangeTop.clock = s.clock := by
  simp [State.clock, State.pop16, State.exchangeTop]

/-- Undefined flag bits and a port with no byte prepared take a draw each (log entries 3, 4). -/
@[simp] theorem State.hook_clock (s : State) :
    (∀ mask, (s.drawIntoF mask).clock = s.clock.drawn 1) ∧
    (∀ p, (s.ioRead p).2.clock = s.clock.drawn (if s.portInput = [] then 1 else 0)) ∧
    ∀ p v, (s.ioWrite p v).clock = s.clock := by
  refine ⟨fun _ => rfl, fun p => ?_, fun _ _ => rfl⟩
  unfold State.ioRead
  split <;> simp [State.clock, ClockPart.drawn, *]

@[simp] theorem State.jump_clock (s : State) :
    (∀ v, (s.jumpTo v).clock = s.clock) ∧ (∀ v, (s.callTo v).clock = s.clock) ∧ s.popPC.clock = s.clock ∧
    s.returnFromInterrupt.clock = s.clock ∧ (∀ e, (s.jumpRelative e).clock = s.clock) ∧ s.rewindBlock.clock = s.clock ∧
    s.decodeError.clock = s.clock :=
  ⟨fun _ => rfl, fun _ => rfl, rfl, rfl, fun _ => rfl, rfl, rfl⟩

@[simp] theorem State.alu_clock (s : State) (v : Byte) :
    (s.aluAdd v).clock = s.clock ∧ (s.aluAdc v).clock = s.clock ∧ (s.aluSub v).clock = s.clock ∧
    (s.aluSbc v).clock = s.clock ∧ (s.aluAnd v).clock = s.clock ∧ (s.aluXor v).clock = s.clock ∧
    (s.aluOr v).clock = s.clock ∧ (s.aluCp v).clock = s.clock :=
  ⟨rfl, rfl, rfl, rfl, rfl, rfl, rfl, rfl⟩

@[simp] theorem State.arithmetic_clock (s : State) :
    (∀ res, (s.setAcc res).clock = s.clock) ∧ (∀ p, (s.addPair p).clock = s.clock) ∧
    (∀ r, (s.incReg r).clock = s.clock) ∧ (∀ r, (s.decReg r).clock = s.clock) ∧
    (∀ h, (s.incHalf h).clock = s.clock) ∧ (∀ h, (s.decHalf h).clock = s.clock) ∧
    (∀ a, (s.incMem a).clock = s.clock) ∧ ∀ a, (s.decMem a).clock = s.clock := by
  simp [State.setAcc, State.addPair, State.incReg, State.decReg, State.incHalf, State.decHalf, State.incMem, State.decMem]

@[simp] theorem State.rotate_clock (s : State) (op : Byte → Bool → Byte × Bool) :
    (s.rotA op).clock = s.clock ∧ (∀ r, (s.rotReg op r).clock = s.clock) ∧
    (∀ a, (s.rotMem op a).clock = s.clock) ∧ ∀ a r, (s.rotMemCopy op a r).clock = s.clock := by
  simp [State.rotA, State.rotReg, State.rotMem, State.rotMemCopy]

@[simp] theorem State.map_clock (s : State) (op : Byte → Byte) :
    (∀ r, (s.mapReg op r).clock = s.clock) ∧ (∀ a, (s.mapMem op a).clock = s.clock) ∧
    ∀ a r, (s.mapMemCopy op a r).clock = s.clock := by
  simp [State.mapReg, State.mapMem, State.mapMemCopy]

@[simp] theorem State.element_clock (s : State) (inc : Word) :
    (s.loadElement inc).clock = s.clock ∧ (s.compareElement inc).clock = s.clock ∧
    (s.inputElement inc).clock = (s.ioRead s.bc).2.clock ∧ (s.outputElement inc).clock = s.clock := by
  simp [State.loadElement, State.compareElement, State.inputElement, State.outputElement]

/-! ### The instructions that inhibit the interrupt at their boundary -/

/-- EI, also behind a DD or FD, and a DD or FD that dangles (40_engine.md R171). -/
def inhibits : Instr → Bool
  | .ei => true
  | .danglingDdDd => true
  | .danglingDdFd => true
  | .danglingDdEd => true
  | .danglingFdDd => true
  | .danglingFdFd => true
  | .danglingFdEd => true
  | .fallThroughDD i => inhibits i
  | .fallThroughFD i => inhibits i
  | _ => false

theorem inhibits_of_fallsThrough {i : Instr} (h : i.fallsThrough = true) : inhibits i = true ↔ i = .ei := by
  cases i
  case danglingDdDd | danglingDdFd | danglingDdEd | danglingFdDd | danglingFdFd | danglingFdEd | fallThroughDD |
      fallThroughFD => cases h
  all_goals simp [inhibits]

theorem inhibits_iff {i : Instr} (hw : i.wellFormed = true) : inhibits i = true ↔ plainOf i = .ei ∨ dangles i = true := by
  cases i
  case fallThroughDD | fallThroughFD => simpa [inhibits, plainOf, dangles] using inhibits_of_fallsThrough hw
  all_goals simp [inhibits, plainOf, dangles]

/-! ### The end of an instruction -/

/-- From `s` an instruction ends in `t`, at a cost of 4 to `dearest` cycles. -/
def Retires (dearest : Nat) (inhibit : Bool) (s t : State) : Prop :=
  ∃ (u : State) (cost : Nat), s.clock.Draws u.clock ∧ 4 ≤ cost ∧ cost ≤ dearest ∧ t = u.retire cost inhibit

/-- The cycle counter and the elapsed count added: what is charged moves from the one to the other (40_engine.md R160). -/
def State.balance (s : State) : Count := s.iCount + BitVec.ofInt 32 s.elapsed

theorem State.charge_balance (s : State) (n : Nat) : (s.charge n).balance = s.balance := by
  simp [State.balance, BitVec.ofInt_add, BitVec.ofInt_natCast]

section
variable {s u t : State} {dearest : Nat} {inhibit : Bool}

theorem Retires.idx (h : Retires dearest inhibit s t) : t.idx = .none := by
  obtain ⟨u, cost, -, -, -, rfl⟩ := h
  rfl

theorem Retires.intInhibit (h : Retires dearest inhibit s t) : t.intInhibit = inhibit := by
  obtain ⟨u, cost, -, -, -, rfl⟩ := h
  rfl

theorem Retires.elapsed (h : Retires dearest inhibit s t) :
    s.elapsed + 4 ≤ t.elapsed ∧ t.elapsed ≤ s.elapsed + dearest := by
  obtain ⟨u, cost, ⟨n, hu⟩, hmin, hmax, rfl⟩ := h
  have hElapsed : u.elapsed = s.elapsed := congrArg ClockPart.elapsed hu
  rw [State.retire_elapsed, hElapsed]
  omega

theorem Retires.draws (h : Retires dearest inhibit s t) : s.draws ≤ t.draws := by
  obtain ⟨u, cost, ⟨n, hu⟩, -, -, rfl⟩ := h
  have hDraws : u.draws = s.draws + n := congrArg ClockPart.draws hu
  exact (Nat.le_add_right s.draws n).trans_eq hDraws.symm

theorem Retires.balance (h : Retires dearest inhibit s t) : t.balance = s.balance := by
  obtain ⟨u, cost, ⟨n, hu⟩, -, -, rfl⟩ := h
  have hbalance : u.balance = s.balance := congrArg (fun c => c.iCount + BitVec.ofInt 32 c.elapsed) hu
  exact (u.charge_balance cost).trans hbalance

/-- 40_engine.md R167: the 4 cycles of a DD or FD join the cost of the instruction behind it. -/
theorem Retires.charge (h : Retires dearest inhibit (s.fetched 1 1) t) : Retires (dearest + 4) inhibit s (t.charge 4) := by
  obtain ⟨u, cost, hu, hmin, hmax, rfl⟩ := h
  refine ⟨u, cost + 4, hu, by omega, by omega, ?_⟩
  simp [State.retire, State.charge, BitVec.ofNat_add, sub_sub, Int.add_assoc]

theorem retires_of_retire {cost : Nat} (h : (.next (u.retire cost inhibit) : Result) = .next t)
    (hu : s.clock.Draws u.clock) (hcost : 4 ≤ cost ∧ cost ≤ dearest) : Retires dearest inhibit s t := by
  cases h
  exact ⟨u, cost, hu, hcost.1, hcost.2, rfl⟩

theorem retires_of_branch {taken : Bool} {costTaken costNot : Nat} {effect : State → State}
    (h : branch taken costTaken costNot effect u = .next t) (hu : s.clock.Draws u.clock)
    (he : s.clock.Draws (effect u).clock) (hcost : 4 ≤ costNot ∧ costNot ≤ costTaken ∧ costTaken ≤ dearest) :
    Retires dearest false s t := by
  obtain ⟨hmin, hle, hmax⟩ := hcost
  obtain rfl | rfl := branch_next h
  · exact ⟨effect u, costTaken, he, hmin.trans hle, hmax, rfl⟩
  · exact ⟨u, costNot, hu, hmin, hle.trans hmax, rfl⟩

theorem retires_of_endElement {again : Bool} {mask : Byte} (h : u.endElement again mask = .next t)
    (hu : s.clock.Draws u.clock) : Retires 23 false s t := by
  obtain rfl | rfl := State.endElement_next h
  · exact ⟨(u.drawIntoF mask).rewindBlock, 21, hu.drawn 1, by decide, by decide, rfl⟩
  · exact ⟨u, 16, hu, by decide, by decide, rfl⟩

end

/-- 40_engine.md R167: the instructions that a DD or FD leaves as they are cost at most 19 cycles, so that the 4 of the DD or
FD make none of them dearer than the dearest other row. -/
theorem unprefixedRow_retires {i : Instr} {s t : State} (h : unprefixedRow i s = .next t) :
    Retires 19 (inhibits i) s t := by
  have he := exec_of_unprefixedRow h
  cases i
  case djnz | jrCc | jpCcNn | callCcNn | retCc =>
    simp only [exec, execDjnz, execJrCc, execJpCcNn, execCallCcNn, execRetCc] at he
    exact retires_of_branch he (by simp) (by simp) (by decide)
  case di | ei | halt | exAfAf | exx => exact retires_of_retire h ⟨0, rfl⟩ (by decide)
  all_goals first | exact retires_of_retire h (by simp) (by decide) | cases h

theorem fallThrough_retires {i : Instr} {s t : State} (h : fallThrough i s = .next t) : Retires 23 (inhibits i) s t := by
  unfold fallThrough at h
  split at h
  case h_1 u hu =>
    cases h
    exact (unprefixedRow_retires hu).charge
  all_goals cases h

/-- Every row ends in a `retire`, at a cost of at most 23 cycles (70_reset_and_hazards.md R583). -/
theorem exec_retires {i : Instr} {s t : State} (hi : sendsOn i = false) (h : exec i s = .next t) :
    Retires 23 (inhibits i) s t := by
  cases i
  case prefixCB | prefixDD | prefixED | prefixFD | ddCb | fdCb => cases hi
  case fallThroughDD i | fallThroughFD i => exact fallThrough_retires (i := i) h
  case djnz | jrCc | jpCcNn | callCcNn | retCc =>
    simp only [exec, execDjnz, execJrCc, execJpCcNn, execCallCcNn, execRetCc] at h
    exact retires_of_branch h (by simp) (by simp) (by decide)
  case ldir | lddr | cpir | cpdr | otir | otdr | inir | indr => exact retires_of_endElement h (by simp)
  case di | ei | halt | exAfAf | exx | ldSpHl | im0 | im1 | im2 | ldIA | ldRA | ldSpIx | ldSpIy =>
    exact retires_of_retire h ⟨0, rfl⟩ (by decide)
  all_goals exact retires_of_retire h (by simp) (by decide)

end Sys2Proof.Machine
end

section
/-! A DD or FD alone and before an instruction it leaves as it is, and the rows that send the decoder on (40_engine.md R165 to
R170). -/

namespace Sys2Proof.Machine

/-! ### Every well-formed instruction completes -/

theorem goes_branch (taken : Bool) (costTaken costNot : Nat) (effect : State → State) (u : State) :
    Goes (branch taken costTaken costNot effect u) := by
  cases taken <;> exact ⟨_, rfl⟩

theorem goes_endElement (u : State) (again : Bool) (mask : Byte) : Goes (u.endElement again mask) := by
  cases again <;> exact ⟨_, rfl⟩

theorem unprefixedRow_of_fallsThrough {i : Instr} (h : i.fallsThrough = true) (s : State) : unprefixedRow i s = exec i s := by
  cases i <;> first | rfl | cases h

theorem fallThrough_eq {i : Instr} {s t : State} (h : i.fallsThrough = true) (ht : exec i (s.fetched 1 1) = .next t) :
    fallThrough i s = .next (t.charge 4) := by
  rw [fallThrough, unprefixedRow_of_fallsThrough h, ht]

theorem exec_goes {i : Instr} (hw : i.wellFormed = true) (s : State) : Goes (exec i s) := by
  induction i generalizing s
  case prefixCB | prefixDD | prefixED | prefixFD | ddCb | fdCb => cases hw
  case fallThroughDD i ih | fallThroughFD i ih =>
    obtain ⟨t, ht⟩ := ih (Instr.wellFormed_of_fallsThrough hw) (s.fetched 1 1)
    exact ⟨_, fallThrough_eq hw ht⟩
  case djnz | jrCc | jpCcNn | callCcNn | retCc =>
    simp only [exec, execDjnz, execJrCc, execJpCcNn, execCallCcNn, execRetCc]
    exact goes_branch ..
  case ldir | lddr | cpir | cpdr | otir | otdr | inir | indr => exact goes_endElement ..
  all_goals exact ⟨_, rfl⟩

/-! ### A DD or FD alone, and what an instruction behind one finds -/

theorem exec_of_dangles {i : Instr} (h : dangles i = true) (s : State) : exec i s = dangling s := by
  cases i
  case danglingDdDd | danglingDdFd | danglingDdEd | danglingFdDd | danglingFdFd | danglingFdEd => rfl
  all_goals cases h

theorem dangling_eq (s : State) : dangling s = .next { s.after 1 1 4 with intInhibit := true } := by
  rw [← retire_fetched]
  rfl

/-- Every instruction begins with a fetch, after which no substitution is in force. -/
theorem exec_select (i : Instr) (s : State) (x : IndexSel) : exec i (s.select x) = exec i s := by
  cases i <;> rfl

/-- 40_engine.md R157, R158: the instruction behind a DD or FD finds PC one byte later and R incremented once. -/
theorem exec_fetched_one (i : Instr) (s : State) :
    exec i (s.fetched 1 1) = exec i { s with pc := s.pc + 1, r := refreshed s.r 1 } := by
  rw [← bumpRTimes_eq]
  exact exec_select i { s with pc := s.pc + 1, r := bumpRTimes 1 s.r } .none

/-! ### The rows that send the decoder on find their row in the table they send it to -/

section
variable (y : Nat) (s : State)

theorem cbRow_rotRegRow (r : Reg8) : cbRow (rotRegRow y r) s = exec (rotRegRow y r) s := by
  unfold rotRegRow
  split <;> rfl

theorem cbRow_rotMemRow : cbRow (rotMemRow y) s = exec (rotMemRow y) s := by
  unfold rotMemRow
  split <;> rfl

theorem edRow_imRow (y : Fin 8) : edRow (imRow y) s = exec (imRow y) s := by
  unfold imRow
  split <;> rfl

theorem edRow_edColumn7Row : edRow (edColumn7Row y) s = exec (edColumn7Row y) s := by
  unfold edColumn7Row
  split <;> rfl

theorem edRow_blockRow (k : Nat) : edRow (blockRow k) s = exec (blockRow k) s := by
  unfold blockRow
  split <;> rfl

theorem rowsRun_rotMemIndexRow (d : Byte) :
    ddcbRow (rotMemIxRow y d) s = exec (rotMemIxRow y d) s ∧ fdcbRow (rotMemIyRow y d) s = exec (rotMemIyRow y d) s := by
  unfold rotMemIxRow rotMemIyRow
  split <;> exact ⟨rfl, rfl⟩

theorem rowsRun_rotMemIndexCopyRow (d : Byte) (r : Reg8) :
    ddcbRow (rotMemIxCopyRow y d r) s = exec (rotMemIxCopyRow y d r) s ∧
      fdcbRow (rotMemIyCopyRow y d r) s = exec (rotMemIyCopyRow y d r) s := by
  unfold rotMemIxCopyRow rotMemIyCopyRow
  split <;> exact ⟨rfl, rfl⟩

end

theorem cbRow_cbTable (op : Byte) (s : State) : cbRow (cbTable op) s = exec (cbTable op) s := by
  simp only [cbTable]
  split <;> split
  · exact cbRow_rotMemRow ..
  · exact cbRow_rotRegRow ..
  all_goals rfl

theorem edRow_edQuarter1 (op b1 b2 : Byte) (s : State) : edRow (edQuarter1 op b1 b2) s = exec (edQuarter1 op b1 b2) s := by
  simp only [edQuarter1]
  split
  case h_5 => rfl
  case h_7 => exact edRow_imRow ..
  case h_8 => exact edRow_edColumn7Row ..
  all_goals split <;> rfl

theorem edRow_edTable (op b1 b2 : Byte) (s : State) : edRow (edTable op b1 b2) s = exec (edTable op b1 b2) s := by
  simp only [edTable]
  split
  case h_2 => exact edRow_edQuarter1 ..
  case h_3 =>
    split
    · exact edRow_blockRow ..
    · rfl
  all_goals rfl

theorem rowsRun_indexedBitTable (d op : Byte) (s : State) :
    ddcbRow (ddcbTable d op) s = exec (ddcbTable d op) s ∧ fdcbRow (fdcbTable d op) s = exec (fdcbTable d op) s := by
  simp only [ddcbTable, fdcbTable]
  split
  case h_1 =>
    split
    · exact rowsRun_rotMemIndexRow ..
    · exact rowsRun_rotMemIndexCopyRow ..
  case h_2 => exact ⟨rfl, rfl⟩
  all_goals split <;> exact ⟨rfl, rfl⟩

/-- The DD row `i` and the FD row `j` run as the rows they are once looked up where they send the decoder. -/
def RowsRun (i j : Instr) (s : State) : Prop :=
  ddRow i s = exec (resolveIndexedBit i) s ∧ fdRow j s = exec (resolveIndexedBit j) s

section
variable (op b1 b2 : Byte) (i : Instr) (s : State)

theorem rowsRun_aluMem (y : Nat) (d : Byte) : RowsRun (aluIxMemRow y d) (aluIyMemRow y d) s := by
  unfold aluIxMemRow aluIyMemRow
  split <;> exact ⟨rfl, rfl⟩

theorem rowsRun_aluHalf (y : Nat) (h : Half) : RowsRun (aluIxHalfRow y h) (aluIyHalfRow y h) s := by
  unfold aluIxHalfRow aluIyHalfRow
  split <;> exact ⟨rfl, rfl⟩

theorem rowsRun_quarter0 :
    RowsRun (ddQuarter0 op b1 b2 (.fallThroughDD i)) (fdQuarter0 op b1 b2 (.fallThroughFD i)) s := by
  simp only [ddQuarter0, fdQuarter0]
  split
  case h_7 => exact ⟨rfl, rfl⟩
  all_goals split_ifs <;> exact ⟨rfl, rfl⟩

theorem rowsRun_quarter1 :
    RowsRun (ddQuarter1 op b1 (.fallThroughDD i)) (fdQuarter1 op b1 (.fallThroughFD i)) s := by
  simp only [ddQuarter1, fdQuarter1]
  split_ifs <;> exact ⟨rfl, rfl⟩

theorem rowsRun_quarter2 :
    RowsRun (ddQuarter2 op b1 (.fallThroughDD i)) (fdQuarter2 op b1 (.fallThroughFD i)) s := by
  simp only [ddQuarter2, fdQuarter2]
  split_ifs
  · exact rowsRun_aluMem ..
  · exact rowsRun_aluHalf ..
  · exact ⟨rfl, rfl⟩

theorem rowsRun_quarter3 :
    RowsRun (ddQuarter3 op b1 b2 (.fallThroughDD i)) (fdQuarter3 op b1 b2 (.fallThroughFD i)) s := by
  simp only [ddQuarter3, fdQuarter3]
  split
  case h_1 => exact rowsRun_indexedBitTable ..
  all_goals exact ⟨rfl, rfl⟩

end

theorem rowsRun_table (op b1 b2 : Byte) (s : State) : RowsRun (ddTable op b1 b2) (fdTable op b1 b2) s := by
  simp only [ddTable, fdTable]
  split
  · exact rowsRun_quarter0 ..
  · exact rowsRun_quarter1 ..
  · exact rowsRun_quarter2 ..
  · exact rowsRun_quarter3 ..

end Sys2Proof.Machine

namespace Sys2Proof
open Machine

/-- Settles O58: all six forms run `dangling`, a fetch of one byte and an inhibited end. -/
theorem danglingPrefix : Obligations.DanglingPrefix := by
  intro s i hi
  rw [exec_of_dangles hi, dangling_eq]

/-- Settles O59: the instruction behind the DD or FD completes from the state after the fetch of one byte. -/
theorem fallThrough : Obligations.FallThrough := by
  intro s i hi
  obtain ⟨t, ht⟩ := exec_goes (Instr.wellFormed_of_fallsThrough hi) (s.fetched 1 1)
  exact ⟨t, (exec_fetched_one i s).symm.trans ht, fallThrough_eq hi ht, rfl⟩

/-- Settles O60: the row functions find the rows of their own tables, whose rows are well formed. -/
theorem prefixRows : Obligations.PrefixRows := by
  intro s b1 b2 b3
  have hcb : exec (.prefixCB b1) s = exec (cbTable b1) s := cbRow_cbTable b1 s
  have hed : exec (.prefixED b1 b2 b3) s = exec (edTable b1 b2 b3) s := edRow_edTable b1 b2 b3 s
  obtain ⟨hdd, hfd⟩ : exec (.prefixDD b1 b2 b3) s = exec (resolveIndexedBit (ddTable b1 b2 b3)) s ∧
      exec (.prefixFD b1 b2 b3) s = exec (resolveIndexedBit (fdTable b1 b2 b3)) s := rowsRun_table b1 b2 b3 s
  obtain ⟨hddcb, hfdcb⟩ : exec (.ddCb b1 b2) s = exec (ddcbTable b1 b2) s ∧
      exec (.fdCb b1 b2) s = exec (fdcbTable b1 b2) s := rowsRun_indexedBitTable b1 b2 s
  obtain ⟨hcbw, -⟩ := begins_cbTable b1
  obtain ⟨hedw, -⟩ := begins_edTable b1 b2 b3
  obtain ⟨⟨hddw, -⟩, hfdw, -⟩ := indexRows_table b1 b2 b3
  obtain ⟨⟨hddcbw, -⟩, hfdcbw, -⟩ := begins_indexedBitTable b1 b2
  rw [hcb, hed, hdd, hfd, hddcb, hfdcb]
  exact ⟨exec_goes hcbw s, rfl, exec_goes hedw s, rfl, exec_goes hddw s, rfl, exec_goes hfdw s, rfl,
    exec_goes hddcbw s, rfl, exec_goes hfdcbw s, rfl⟩

end Sys2Proof
end

section
/-! The boundary after an instruction (40_engine.md R155, R162 to R164, R172, R173), part by part. -/

namespace Sys2Proof.Machine

/-! ### Its parts -/

theorem State.waitStates_timed {s : State} (h : s.variant = .timed) :
    s.waitStates = { s.charge (Config.timedWait s.draws) with draws := s.draws + 1 } := by
  simp [State.waitStates, h]

theorem State.waitStates_untimed {s : State} (h : s.variant ≠ .timed) : s.waitStates = s := by
  unfold State.waitStates
  split
  · exact absurd ‹_› h
  all_goals rfl

theorem State.periodBoundary_nonContended {s : State} (h : s.variant = .nonContended) :
    s.periodBoundary = s.rearm.interruptCheck := by
  simp [State.periodBoundary, h]

theorem State.periodBoundary_noInterrupts {s : State} (h : s.variant ≠ .nonContended) : s.periodBoundary = s := by
  unfold State.periodBoundary
  split
  · rfl
  · exact absurd ‹_› h
  · rfl

/-- The tape hook writes neither the variant nor the elapsed count, and it takes a draw where it runs (log entry 6). -/
theorem State.tapeHook_run (s : State) :
    s.tapeHook.variant = s.variant ∧ s.tapeHook.elapsed = s.elapsed ∧ s.draws ≤ s.tapeHook.draws := by
  unfold State.tapeHook
  split
  · exact ⟨rfl, rfl, Nat.le_succ _⟩
  · exact ⟨rfl, rfl, le_rfl⟩

theorem State.rearm_of_expired {s : State} (h : s.iCount.toInt ≤ 0) :
    s.rearm = { s with iCount := s.iCount + s.iPeriod, events := s.events ++ [.hardwareSync] } := if_pos h

theorem State.rearm_of_pos {s : State} (h : 0 < s.iCount.toInt) : s.rearm = s := if_neg (not_le.2 h)

@[simp] theorem State.rearm_frame (s : State) :
    s.rearm.iff1 = s.iff1 ∧ s.rearm.intInhibit = s.intInhibit ∧ s.rearm.pc = s.pc ∧ s.rearm.sp = s.sp ∧
    s.rearm.mem = s.mem ∧ s.rearm.idx = s.idx ∧ s.rearm.elapsed = s.elapsed ∧ s.rearm.draws = s.draws ∧
    s.rearm.iIntTime = s.iIntTime := by
  unfold State.rearm
  split <;> (repeat' constructor)

theorem State.interruptDue_iff (s : State) :
    s.interruptDue = true ↔ s.iIntTime.toInt < s.iCount.toInt ∧ s.iff1 = true ∧ s.intInhibit = false := by
  simp [State.interruptDue, and_assoc]

theorem State.interruptCheck_of_due {s : State} (h : s.interruptDue = true) : s.interruptCheck = s.acceptCharged := if_pos h

theorem State.interruptCheck_of_not_due {s : State} (h : ¬ s.interruptDue = true) : s.interruptCheck = s := if_neg h

/-- 60_exceptions.md R524: IFF1 = 0 and the inhibit each mask the interrupt. -/
theorem State.interruptCheck_of_masked {s : State} (h : s.iff1 = false ∨ s.intInhibit = true) : s.interruptCheck = s := by
  refine State.interruptCheck_of_not_due fun hdue => ?_
  obtain ⟨-, hiff, hinhibit⟩ := s.interruptDue_iff.1 hdue
  simp [hiff, hinhibit] at h

theorem State.takeInterrupt_frame (s : State) :
    s.takeInterrupt.idx = s.idx ∧ s.takeInterrupt.iCount = s.iCount ∧ s.takeInterrupt.elapsed = s.elapsed ∧
    s.takeInterrupt.draws = s.draws := by
  unfold State.takeInterrupt
  dsimp only
  split <;> simp

theorem State.accept_frame (s : State) :
    s.accept.1.idx = s.idx ∧ s.accept.1.iCount = s.iCount ∧ s.accept.1.elapsed = s.elapsed ∧ s.accept.1.draws = s.draws := by
  unfold State.accept
  split
  · exact s.takeInterrupt_frame
  · exact ⟨rfl, rfl, rfl, rfl⟩

/-- 60_exceptions.md R530. -/
theorem State.accept_cost_le (s : State) : s.accept.2 ≤ 19 := by
  unfold State.accept
  split
  · change acceptCost s.im ≤ 19
    cases s.im <;> decide
  · exact Nat.zero_le _

theorem State.acceptCharged_eq (s : State) :
    s.acceptCharged =
      { s.accept.1 with iCount := s.iCount - BitVec.ofNat 32 s.accept.2, elapsed := s.elapsed + s.accept.2 } := by
  obtain ⟨-, hCount, hElapsed, -⟩ := s.accept_frame
  rw [State.acceptCharged, State.charge, hCount, hElapsed]

theorem State.interruptCheck_run (s : State) :
    s.interruptCheck.idx = s.idx ∧ s.interruptCheck.draws = s.draws ∧ s.elapsed ≤ s.interruptCheck.elapsed ∧
    s.interruptCheck.elapsed ≤ s.elapsed + 19 := by
  by_cases h : s.interruptDue = true
  · obtain ⟨hidx, -, -, hDraws⟩ := s.accept_frame
    have hcost := s.accept_cost_le
    rw [State.interruptCheck_of_due h, State.acceptCharged_eq]
    exact ⟨hidx, hDraws, by simp, by simpa using hcost⟩
  · rw [State.interruptCheck_of_not_due h]
    exact ⟨rfl, rfl, le_rfl, by simp⟩

/-! ### The boundary outside a tape load -/

section
variable {s : State} (htape : s.tapeActive = false)
include htape

theorem State.boundary_of_idle : s.boundary = s.waitStates.periodBoundary := by
  have hwait : s.waitStates.tapeActive = false := (congrArg (fun o => o.fixed.tapeActive) s.waitStates_outer).trans htape
  rw [State.boundary, State.tapeHook_idle hwait]

theorem State.boundary_timed (h : s.variant = .timed) :
    s.boundary = { s.charge (Config.timedWait s.draws) with draws := s.draws + 1 } := by
  rw [State.boundary_of_idle htape, State.waitStates_timed h]
  exact State.periodBoundary_noInterrupts (by simp [h])

theorem State.boundary_nonContended (h : s.variant = .nonContended) : s.boundary = s.rearm.interruptCheck := by
  rw [State.boundary_of_idle htape, State.waitStates_untimed (by simp [h]), State.periodBoundary_nonContended h]

theorem State.boundary_noInterrupt (h : s.variant = .nonContendedNoInterrupt) : s.boundary = s := by
  rw [State.boundary_of_idle htape, State.waitStates_untimed (by simp [h]), State.periodBoundary_noInterrupts (by simp [h])]

theorem State.boundary_idx : s.boundary.idx = s.idx := by
  cases hv : s.variant with
  | timed =>
    rw [State.boundary_timed htape hv]
    rfl
  | nonContended =>
    rw [State.boundary_nonContended htape hv, s.rearm.interruptCheck_run.1]
    simp
  | nonContendedNoInterrupt => rw [State.boundary_noInterrupt htape hv]

/-- An inhibited boundary writes the counters alone. -/
theorem State.boundary_of_inhibited (h : s.intInhibit = true) :
    s.boundary.iff1 = s.iff1 ∧ s.boundary.pc = s.pc ∧ s.boundary.sp = s.sp ∧ s.boundary.mem = s.mem := by
  cases hv : s.variant with
  | timed =>
    rw [State.boundary_timed htape hv]
    exact ⟨rfl, rfl, rfl, rfl⟩
  | nonContended =>
    rw [State.boundary_nonContended htape hv, State.interruptCheck_of_masked (.inr (by simp [h]))]
    simp
  | nonContendedNoInterrupt =>
    rw [State.boundary_noInterrupt htape hv]
    exact ⟨rfl, rfl, rfl, rfl⟩

end

/-! ### What any boundary adds to the elapsed count -/

/-- The wait states of a boundary, drawn with number `k` (40_engine.md R163). -/
def waitCost (v : Variant) (k : Nat) : Nat := if v = .timed then Config.timedWait k else 0

/-- The dearest acceptance of a boundary (60_exceptions.md R530). -/
def acceptLimit (v : Variant) : Nat := if v = .nonContended then 19 else 0

theorem State.waitStates_run (s : State) :
    s.waitStates.variant = s.variant ∧ s.waitStates.elapsed = s.elapsed + waitCost s.variant s.draws ∧
    s.draws ≤ s.waitStates.draws ∧ (s.variant = .timed → s.draws < s.waitStates.draws) := by
  unfold State.waitStates
  split <;> simp [waitCost, *]

theorem State.periodBoundary_run (s : State) :
    s.periodBoundary.variant = s.variant ∧ s.periodBoundary.draws = s.draws ∧ s.elapsed ≤ s.periodBoundary.elapsed ∧
    s.periodBoundary.elapsed ≤ s.elapsed + acceptLimit s.variant := by
  obtain ⟨A, hr⟩ := s.periodBoundary_reaches
  refine ⟨congrArg FixedPart.variant hr.fixed, ?_⟩
  by_cases hv : s.variant = .nonContended
  · obtain ⟨-, hcheck⟩ := s.rearm.interruptCheck_run
    simpa [State.periodBoundary_nonContended hv, acceptLimit, hv] using hcheck
  · simp [State.periodBoundary_noInterrupts hv, acceptLimit, hv]

theorem State.boundary_run (s : State) :
    s.boundary.variant = s.variant ∧ s.draws ≤ s.boundary.draws ∧ (s.variant = .timed → s.draws < s.boundary.draws) ∧
    s.elapsed ≤ s.boundary.elapsed ∧
    s.boundary.elapsed ≤ s.elapsed + waitCost s.variant s.draws + acceptLimit s.variant := by
  obtain ⟨hwv, hwe, hwd, hwt⟩ := s.waitStates_run
  obtain ⟨htv, hte, htd⟩ := s.waitStates.tapeHook_run
  obtain ⟨hpv, hpd, hmin, hmax⟩ := s.waitStates.tapeHook.periodBoundary_run
  have hv := htv.trans hwv
  rw [hv] at hpv hmax
  rw [State.boundary]
  exact ⟨hpv, by omega, fun h => by have := hwt h; omega, by omega, by omega⟩

end Sys2Proof.Machine

namespace Sys2Proof
open Machine

/-- Settles O11: the tape hook is idle, and neither variant has a period. -/
theorem boundaryWithoutInterrupts : Obligations.BoundaryWithoutInterrupts :=
  fun _ htape => ⟨State.boundary_noInterrupt htape, State.boundary_timed htape⟩

/-- Settles O12: the masked check after the re-arm does nothing. -/
theorem reArm : Obligations.ReArm := by
  intro s htape hv hmask
  rw [State.boundary_nonContended htape hv, State.interruptCheck_of_masked (by simpa using hmask)]
  exact ⟨State.rearm_of_expired, State.rearm_of_pos⟩

/-- Settles O13: the boundary is the check of the re-armed state, whose condition is `interruptDue_iff`. -/
theorem interruptCheck : Obligations.InterruptCheck := by
  intro s htape hv u
  have hu : s.boundary = u.interruptCheck := State.boundary_nonContended htape hv
  refine ⟨fun htime hiff hinhibit => ?_, fun hmask => ?_⟩
  · rw [hu, State.interruptCheck_of_due (u.interruptDue_iff.2 ⟨htime, hiff, hinhibit⟩), State.acceptCharged_eq]
  · rw [hu]
    refine State.interruptCheck_of_not_due fun hdue => ?_
    obtain ⟨htime, hiff, hinhibit⟩ := u.interruptDue_iff.1 hdue
    obtain hlate | hoff | hon := hmask
    · exact absurd htime (not_lt.2 hlate)
    · simp [hoff] at hiff
    · simp [hon] at hinhibit

/-- Settles O15: the inhibit that `exec_retires` names is the one of R171, and it masks the check. -/
theorem inhibitedBoundary : Obligations.InhibitedBoundary := by
  refine ⟨fun i s t hw h => ?_, fun s hinhibit htape => State.boundary_of_inhibited htape hinhibit⟩
  rw [(exec_retires (sendsOn_of_wellFormed hw) h).intInhibit]
  exact inhibits_iff hw

end Sys2Proof
end

section
/-! A step and a run call (40_engine.md R150 to R155, R174): what they add to the elapsed count and take from ICount. -/

namespace Sys2Proof.Machine

/-! ### A step -/

theorem State.instrAtPC_wellFormed (s : State) : s.instrAtPC.wellFormed = true := (begins_decodeBytes _ _ _ _).1

theorem step_goes (s : State) : Goes (step s) := by
  obtain ⟨u, hu⟩ := exec_goes s.haltRewind.instrAtPC_wellFormed s.haltRewind
  exact ⟨u.boundary, congrArg atBoundary hu⟩

/-- A step: an instruction ends, which writes none of the fixed fields, and the boundary follows. -/
theorem step_retires {s t : State} (h : step s = .next t) :
    ∃ (u : State) (inhibit : Bool), Retires 23 inhibit s u ∧ u.outer.fixed = s.outer.fixed ∧ t = u.boundary := by
  obtain ⟨u, hu, rfl⟩ := step_next h
  have hrow := sendsOn_of_wellFormed s.haltRewind.instrAtPC_wellFormed
  have hr := exec_retires hrow hu
  have hfixed := (exec_reaches hrow hu).fixed
  rw [Retires, State.haltRewind_clock] at hr
  rw [State.haltRewind_outer] at hfixed
  exact ⟨u, _, hr, hfixed, rfl⟩

/-- What a step adds to the elapsed count; the draw of its wait states is a draw of the step. -/
theorem step_run {s t : State} (h : step s = .next t) :
    t.variant = s.variant ∧ s.elapsed + 4 ≤ t.elapsed ∧ s.draws ≤ t.draws ∧
    ∃ k, s.draws ≤ k ∧ (s.variant = .timed → k < t.draws) ∧
      t.elapsed ≤ s.elapsed + 23 + waitCost s.variant k + acceptLimit s.variant := by
  obtain ⟨u, inhibit, hr, hfixed, rfl⟩ := step_retires h
  have hvar : u.variant = s.variant := congrArg FixedPart.variant hfixed
  obtain ⟨hbvar, hdraws, htimed, hmore, hbound⟩ := u.boundary_run
  obtain ⟨hmin, hmax⟩ := hr.elapsed
  rw [hvar] at hbvar htimed hbound
  exact ⟨hbvar, by omega, hr.draws.trans hdraws, u.draws, hr.draws, htimed, by omega⟩

theorem State.boundary_balance {s : State} (htape : s.tapeActive = false) (hv : s.variant ≠ .nonContended) :
    s.boundary.balance = s.balance := by
  cases h : s.variant with
  | timed =>
    rw [State.boundary_timed htape h]
    exact s.charge_balance _
  | nonContended => exact absurd h hv
  | nonContendedNoInterrupt => rw [State.boundary_noInterrupt htape h]

theorem State.boundary_tapeActive {s : State} (htape : s.tapeActive = false) : s.boundary.tapeActive = false := by
  obtain ⟨A, hr⟩ := s.waitStates.periodBoundary_reaches
  rw [State.waitStates_outer] at hr
  rw [State.boundary_of_idle htape]
  exact (congrArg FixedPart.tapeActive hr.fixed).trans htape

/-- Outside a tape load and without re-arm, ICount and the elapsed count add up to `c`. -/
def State.Balanced (c : Count) (s : State) : Prop :=
  s.tapeActive = false ∧ s.variant ≠ .nonContended ∧ s.balance = c

/-- 40_engine.md R174: what a step takes from ICount it adds to the elapsed count. -/
theorem step_balanced {c : Count} {s t : State} (hs : s.Balanced c) (h : step s = .next t) : t.Balanced c := by
  obtain ⟨htape, hv, hc⟩ := hs
  obtain ⟨u, inhibit, hr, hfixed, rfl⟩ := step_retires h
  have hutape : u.tapeActive = false := (congrArg FixedPart.tapeActive hfixed).trans htape
  have huv : u.variant ≠ .nonContended := (congrArg FixedPart.variant hfixed).trans_ne hv
  obtain ⟨hbvar, -⟩ := u.boundary_run
  refine ⟨State.boundary_tapeActive hutape, hbvar.trans_ne huv, ?_⟩
  rw [State.boundary_balance hutape huv, hr.balance, hc]

/-! ### The loop of a run call -/

theorem runLoop_spent {fuel : Nat} {n : Int} {s : State} (h : n ≤ s.elapsed) : runLoop fuel n s = .next s := by
  cases fuel with
  | zero => rfl
  | succ fuel => rw [runLoop, if_neg (not_lt.2 h)]

theorem runLoop_step {fuel : Nat} {n : Int} {s t : State} (h : s.elapsed < n) (ht : step s = .next t) :
    runLoop (fuel + 1) n s = runLoop fuel n t := by
  rw [runLoop, if_pos h, ht]

/-- What every step keeps, a run call keeps. -/
theorem runLoop_keeps {P : State → Prop} (hP : ∀ s t, P s → step s = .next t → P t) {fuel : Nat} {n : Int} {s t : State}
    (hs : P s) (h : runLoop fuel n s = .next t) : P t := by
  induction fuel generalizing s with
  | zero =>
    cases h
    exact hs
  | succ fuel ih =>
    by_cases hn : s.elapsed < n
    · obtain ⟨u, hu⟩ := step_goes s
      rw [runLoop_step hn hu] at h
      exact ih (hP s u hs hu) h
    · rw [runLoop_spent (not_lt.1 hn)] at h
      cases h
      exact hs

/-- Enough fuel uses the budget up, and the last step begins with some of it left. -/
theorem runLoop_last {fuel : Nat} {n : Int} {s : State} (hfuel : n ≤ s.elapsed + fuel) (hn : s.elapsed < n) :
    ∃ u t, runLoop fuel n s = .next t ∧ n ≤ t.elapsed ∧ u.elapsed < n ∧ u.variant = s.variant ∧ s.draws ≤ u.draws ∧
      step u = .next t := by
  induction fuel generalizing s with
  | zero => omega
  | succ fuel ih =>
    obtain ⟨t, ht⟩ := step_goes s
    obtain ⟨hvar, hmore, hDraws, -⟩ := step_run ht
    rw [runLoop_step hn ht]
    by_cases hn' : t.elapsed < n
    · obtain ⟨u, v, hrun, hv, hu, huvar, hudraws, hstep⟩ := ih (by omega) hn'
      exact ⟨u, v, hrun, hv, hu, huvar.trans hvar, hDraws.trans hudraws, hstep⟩
    · exact ⟨s, t, runLoop_spent (not_lt.1 hn'), not_lt.1 hn', hn, rfl, le_rfl, ht⟩

end Sys2Proof.Machine

namespace Sys2Proof
open Machine

/-- Settles O8: an instruction ends with no substitution in force, and a boundary outside a tape load selects none. -/
theorem noSubstitutionAtBoundary : Obligations.NoSubstitutionAtBoundary := by
  intro s t htape h
  obtain ⟨u, inhibit, hr, hfixed, rfl⟩ := step_retires h
  have hutape : u.tapeActive = false := (congrArg FixedPart.tapeActive hfixed).trans htape
  rw [State.boundary_idx hutape, hr.idx]

/-- Settles O16: the last step begins below the budget and adds its cost and its boundary's. -/
theorem runConservation : Obligations.RunConservation := by
  intro v n s
  refine ⟨fun hn => runLoop_spent hn, fun hn => ?_⟩
  obtain ⟨u, t, hrun, hused, hleft, hvar, hdraws, hstep⟩ :=
    runLoop_last (fuel := n.toNat) (s := { s with variant := v, elapsed := 0 }) (by simp) hn
  obtain ⟨htvar, -, -, k, hk, hkt, hcost⟩ := step_run hstep
  refine ⟨u, t, hrun, hused, htvar.trans hvar, hleft, hvar, hstep, ?_, ?_, ?_⟩
  all_goals
    rintro rfl
    simp [hvar, waitCost, acceptLimit] at hcost hkt
  · omega
  · omega
  · exact ⟨k, hdraws.trans hk, hkt, by omega⟩

/-- Settles O17: every step keeps the balance, which begins as ICount. -/
theorem runCounts : Obligations.RunCounts := by
  intro v n s t hv htape h
  have hs : State.Balanced s.iCount { s with variant := v, elapsed := 0 } := ⟨htape, hv, by simp [State.balance]⟩
  obtain ⟨htape', -, hbalance⟩ := runLoop_keeps (fun _ _ => step_balanced) hs h
  exact ⟨eq_sub_of_add_eq hbalance, htape'⟩

end Sys2Proof
end

section
/-! The instruction whose bytes stand at PC, and the step of a halted core (40_engine.md R156, R159). -/

namespace Sys2Proof.Machine

theorem firstInstr_begins (bytes : List Byte) : ∃ four : List Byte, four.length = 4 ∧ (firstInstr bytes).Begins four :=
  ⟨_, rfl, begins_decodeBytes _ _ _ _⟩

/-- 30_encoding.md R90, from the round trip: the decoder reads four bytes. -/
theorem encode_length_le {i : Instr} (hw : i.wellFormed = true) : (encode i).length ≤ 4 := by
  obtain ⟨four, hfour, -, hbytes⟩ := firstInstr_begins (encode i ++ [])
  rw [firstInstr_encode hw] at hbytes
  exact hbytes.length_le.trans_eq hfour

/-- The four bytes from PC on. -/
def State.bytesAtPC (s : State) : List Byte := (List.range 4).map fun k => s.readByte (s.pc + BitVec.ofNat 16 k)

theorem State.instrAtPC_eq (s : State) : s.instrAtPC = firstInstr s.bytesAtPC := by
  have hpc : s.pc = s.pc + BitVec.ofNat 16 0 := (BitVec.add_zero s.pc).symm
  rw [State.instrAtPC]
  conv_lhs => arg 1; rw [hpc]
  rfl

theorem State.instrAtPC_of_bytes {i : Instr} {s : State} (hw : i.wellFormed = true)
    (hbytes : ∀ (k : Nat) (v : Byte), (encode i)[k]? = some v → s.readByte (s.pc + BitVec.ofNat 16 k) = v) :
    s.instrAtPC = i := by
  have hbegin : encode i <+: s.bytesAtPC := by
    refine List.prefix_iff_getElem.2 ⟨by simpa [State.bytesAtPC] using encode_length_le hw, fun k hk => ?_⟩
    simpa [State.bytesAtPC] using (hbytes k _ (List.getElem?_eq_getElem hk)).symm
  obtain ⟨rest, hrest⟩ := hbegin
  rw [State.instrAtPC_eq, ← hrest, firstInstr_encode hw]

/-- 48_io_cpu_control.md R487. -/
theorem exec_halt (s : State) : exec .halt s = .next { s.after 1 1 4 with halted := true } := by
  rw [← retire_fetched]
  rfl

end Sys2Proof.Machine

namespace Sys2Proof
open Machine

/-- Settles O4: the bytes are those of the instruction at PC, by the round trip of O1. -/
theorem stepRunsDecoded : Obligations.StepRunsDecoded := by
  intro s i hw hbytes
  have hstep : step s = atBoundary (exec i s.haltRewind) := by rw [step, State.instrAtPC_of_bytes hw hbytes]
  exact ⟨hstep, fun t ht => hstep.trans (congrArg atBoundary ht), rfl⟩

/-- Settles O10: the rewind and the one-byte fetch of HALT cancel, and the boundary does nothing. -/
theorem haltedStep : Obligations.HaltedStep := by
  intro s hhalted hbyte hv htape
  have hrewind : s.haltRewind = { s with pc := s.pc - 1 } := if_pos hhalted
  have hbytes (k : Nat) (v : Byte) (hk : (encode .halt)[k]? = some v) :
      s.haltRewind.readByte (s.haltRewind.pc + BitVec.ofNat 16 k) = v := by
    cases k with
    | zero =>
      rw [hrewind]
      exact (congrArg s.readByte (BitVec.add_zero _)).trans (hbyte.trans (Option.some.inj hk))
    | succ k => cases hk
  have hafter : ({ s.haltRewind.after 1 1 4 with halted := true } : State) = s.after 0 1 4 := by
    simp [hrewind, State.after, hhalted]
  obtain ⟨-, hstep, -⟩ := stepRunsDecoded s .halt rfl hbytes
  have hrun := hstep _ (exec_halt s.haltRewind)
  rwa [hafter, State.boundary_noInterrupt (s := s.after 0 1 4) htape hv] at hrun

end Sys2Proof
end

section
/-! The flag generator (40_engine.md R130 to R148) in closed form: the tables of half-carry and overflow read a carry or a
borrow off three bits, and the carries are those of `BitVec.carry`. -/

namespace Sys2Proof.Machine

/-! ### The flags of a byte, one mask after another -/

theorem flagByte_eq (s z f5 h f3 pv c : Bool) :
    flagByte s z f5 h f3 pv false c =
      flagIf s flagS ||| flagIf z flagZ ||| flagIf f5 flag5 ||| flagIf h flagH ||| flagIf f3 flag3 ||| flagIf pv flagPV |||
        flagIf c flagC := by
  revert s z f5 h f3 pv c
  decide

theorem flagByte_subtract (s z f5 h f3 pv c : Bool) :
    flagByte s z f5 h f3 pv true c = flagByte s z f5 h f3 pv false c ||| flagN := by
  revert s z f5 h f3 pv c
  decide

theorem flagByte_copy53 (s z f5 h f3 pv n c x5 x3 : Bool) :
    (flagByte s z f5 h f3 pv n c &&& 0xD7) ||| (flagIf x5 flag5 ||| flagIf x3 flag3) = flagByte s z x5 h x3 pv n c := by
  revert s z f5 h f3 pv n c x5 x3
  decide

theorem sz53_eq (v : Byte) :
    sz53 v = flagIf (v.getLsbD 7) flagS ||| flagIf (v == 0) flagZ ||| flagIf (v.getLsbD 5) flag5 |||
      flagIf (v.getLsbD 3) flag3 := by
  revert v
  decide

/-- The masks with which the rules take flags out of a byte: S, 5 and 3; 5 and 3; S, Z and PV. -/
theorem flags_masked (v : Byte) :
    v &&& 0xA8 = flagIf (v.getLsbD 7) flagS ||| flagIf (v.getLsbD 5) flag5 ||| flagIf (v.getLsbD 3) flag3 ∧
    v &&& 0x28 = flagIf (v.getLsbD 5) flag5 ||| flagIf (v.getLsbD 3) flag3 ∧
    v &&& (flagS ||| flagZ ||| flagPV) =
      flagIf (v.getLsbD 7) flagS ||| flagIf (v.getLsbD 6) flagZ ||| flagIf (v.getLsbD 2) flagPV := by
  revert v
  decide

theorem parity_eq (v : Byte) :
    parity v = (if onesBelow 8 v.toNat % 2 = 0 then 0x04 else 0x00) ∧ sz53p v = parityFlags v false false false := by
  revert v
  decide

/-! ### The tables -/

theorem lookup_ovAdd (a b r : Byte) :
    lookup ovAdd (hidx a b r 7) = flagIf (a.getLsbD 7 == b.getLsbD 7 && r.getLsbD 7 != a.getLsbD 7) flagPV := by
  unfold hidx
  generalize a.getLsbD 7 = x, b.getLsbD 7 = y, r.getLsbD 7 = z
  revert x y z
  decide

theorem lookup_ovSub (a b r : Byte) :
    lookup ovSub (hidx a b r 7) = flagIf (a.getLsbD 7 != b.getLsbD 7 && r.getLsbD 7 != a.getLsbD 7) flagPV := by
  unfold hidx
  generalize a.getLsbD 7 = x, b.getLsbD 7 = y, r.getLsbD 7 = z
  revert x y z
  decide

/-- `HC_ADD` finds a carry out of bit 3 where the sum's bit is the operands' bits and the carry in `c` added. -/
theorem lookup_hcAdd {a b r : Byte} {c : Bool} (hr : r.getLsbD 3 = (a.getLsbD 3 ^^ (b.getLsbD 3 ^^ c))) :
    lookup hcAdd (hidx a b r 3) = flagIf ((a.getLsbD 3).atLeastTwo (b.getLsbD 3) c) flagH := by
  unfold hidx
  rw [hr]
  clear hr
  generalize a.getLsbD 3 = x, b.getLsbD 3 = y
  revert x y c
  decide

/-- `HC_SUB` finds a borrow where the minuend is the sum of the difference and the subtrahend with a carry out of bit 3. -/
theorem lookup_hcSub {a b r : Byte} {c : Bool} (ha : a.getLsbD 3 = (r.getLsbD 3 ^^ (b.getLsbD 3 ^^ c))) :
    lookup hcSub (hidx a b r 3) = flagIf ((r.getLsbD 3).atLeastTwo (b.getLsbD 3) c) flagH := by
  unfold hidx
  rw [ha]
  clear ha
  generalize r.getLsbD 3 = x, b.getLsbD 3 = y
  revert x y c
  decide

/-! ### Sums and differences with a carry in -/

section
variable {w : Nat} (a b : BitVec w) (c : Bool)

theorem ofNat_toNat_bool : BitVec.ofNat w c.toNat = BitVec.setWidth w (BitVec.ofBool c) :=
  BitVec.eq_of_toNat_eq (by simp)

theorem ofNat_sum : BitVec.ofNat w (a.toNat + b.toNat + c.toNat) = a + b + BitVec.setWidth w (BitVec.ofBool c) := by
  rw [BitVec.ofNat_add, BitVec.ofNat_add, ofNat_toNat_bool]
  simp

theorem ofInt_difference :
    BitVec.ofInt w ((a.toNat : Int) - b.toNat - c.toNat) = a - b - BitVec.setWidth w (BitVec.ofBool c) := by
  simp only [sub_eq_add_neg, BitVec.ofInt_add, BitVec.ofInt_neg, BitVec.ofInt_natCast, ofNat_toNat_bool]
  simp

theorem difference_add : a - b - BitVec.setWidth w (BitVec.ofBool c) + b + BitVec.setWidth w (BitVec.ofBool c) = a := by
  abel

/-- A sum below `2 * m` passes `m` where its remainder is below a summand. -/
theorem le_sum_iff_mod_lt {m x y z : Nat} (hx : x < m) (hy : y < m) (hz : z ≤ 1) :
    m ≤ x + y + z ↔ (x + y + z) % m < y + z := by
  by_cases hover : m ≤ x + y + z
  · have hmod : (x + y + z) % m = x + y + z - m := by
      rw [Nat.mod_eq_sub_mod hover, Nat.mod_eq_of_lt (by omega)]
    omega
  · rw [Nat.mod_eq_of_lt (not_le.1 hover)]
    omega

/-- The carries of the sum of a difference and the subtrahend are the borrows of the difference. -/
theorem carry_difference {k : Nat} (hk : k ≤ w) :
    BitVec.carry k (a - b - BitVec.setWidth w (BitVec.ofBool c)) b c =
      decide (a.toNat % 2 ^ k < b.toNat % 2 ^ k + c.toNat) := by
  have ha := congrArg (fun v => v.toNat % 2 ^ k) (difference_add a b c)
  generalize a - b - BitVec.setWidth w (BitVec.ofBool c) = d at ha ⊢
  have hsum : a.toNat % 2 ^ k = (d.toNat % 2 ^ k + b.toNat % 2 ^ k + c.toNat) % 2 ^ k := by
    rw [← ha, ← ofNat_sum, BitVec.toNat_ofNat, Nat.mod_mod_of_dvd _ (Nat.pow_dvd_pow 2 hk)]
    simp [Nat.add_mod]
  have hd := Nat.mod_lt d.toNat (Nat.two_pow_pos k)
  have hb := Nat.mod_lt b.toNat (Nat.two_pow_pos k)
  rw [BitVec.carry, hsum, decide_eq_decide]
  exact le_sum_iff_mod_lt hd hb c.toNat_le

end

theorem setWidth_ofBool (c : Bool) : BitVec.setWidth 8 (BitVec.ofBool c) = Byte.ofBool c := by
  cases c <;> rfl

theorem Word.getLsbD_hi (v : Word) {k : Nat} (hk : k < 8) : v.hi.getLsbD k = v.getLsbD (8 + k) := by
  simp [Word.hi, hk]

/-! ### Half-carry -/

theorem halfCarry_byte (a b : Byte) (c : Bool) :
    lookup hcAdd (hidx a b (BitVec.ofNat 8 (a.toNat + b.toNat + c.toNat)) 3) =
      flagIf (decide (a.toNat % 16 + b.toNat % 16 + c.toNat > 15)) flagH := by
  have hbit := BitVec.getLsbD_add_add_bool (by decide : 3 < 8) a b c
  rw [ofNat_sum, lookup_hcAdd hbit, ← BitVec.carry_succ]
  rfl

theorem halfBorrow_byte (a b : Byte) (c : Bool) :
    lookup hcSub (hidx a b (BitVec.ofInt 8 (a.toNat - b.toNat - c.toNat)) 3) =
      flagIf (decide (a.toNat % 16 < b.toNat % 16 + c.toNat)) flagH := by
  have hbit := BitVec.getLsbD_add_add_bool (by decide : 3 < 8) (a - b - BitVec.setWidth 8 (BitVec.ofBool c)) b c
  rw [difference_add] at hbit
  rw [ofInt_difference, lookup_hcSub hbit, ← BitVec.carry_succ, carry_difference a b c (by decide)]
  rfl

/-- Bit 3 of the high byte is bit 11 of the word. -/
theorem halfCarry_word (a b : Word) (c : Bool) :
    lookup hcAdd (hidx a.hi b.hi (Word.hi (BitVec.ofNat 16 (a.toNat + b.toNat + c.toNat))) 3) =
      flagIf (decide (a.toNat % 4096 + b.toNat % 4096 + c.toNat > 4095)) flagH := by
  have hbit := BitVec.getLsbD_add_add_bool (by decide : 11 < 16) a b c
  simp only [← Word.getLsbD_hi _ (by decide : 3 < 8)] at hbit
  rw [ofNat_sum, lookup_hcAdd hbit, Word.getLsbD_hi _ (by decide), Word.getLsbD_hi _ (by decide), ← BitVec.carry_succ]
  rfl

theorem halfBorrow_word (a b : Word) (c : Bool) :
    lookup hcSub (hidx a.hi b.hi (Word.hi (BitVec.ofInt 16 (a.toNat - b.toNat - c.toNat))) 3) =
      flagIf (decide (a.toNat % 4096 < b.toNat % 4096 + c.toNat)) flagH := by
  have hbit := BitVec.getLsbD_add_add_bool (by decide : 11 < 16) (a - b - BitVec.setWidth 16 (BitVec.ofBool c)) b c
  rw [difference_add] at hbit
  simp only [← Word.getLsbD_hi _ (by decide : 3 < 8)] at hbit
  rw [ofInt_difference, lookup_hcSub hbit, Word.getLsbD_hi _ (by decide), Word.getLsbD_hi _ (by decide),
    ← BitVec.carry_succ, carry_difference a b c (by decide)]
  rfl

/-! ### The generator -/

theorem add8_fst (a b : Byte) (c : Bool) : (add8 a b c).1 = a + b + Byte.ofBool c := by
  rw [← setWidth_ofBool, ← ofNat_sum]
  rfl

theorem sub8_fst (a b : Byte) (c : Bool) : (sub8 a b c).1 = a - b - Byte.ofBool c := by
  rw [← setWidth_ofBool, ← ofInt_difference]
  rfl

theorem add8_snd (a b : Byte) (c : Bool) : (add8 a b c).2 = addFlags a b c := by
  simp only [add8, addFlags, sz53_eq, halfCarry_byte, lookup_ovAdd, flagByte_eq]
  ac_rfl

theorem sub8_snd (a b : Byte) (c : Bool) : (sub8 a b c).2 = subFlags a b c (a - b - Byte.ofBool c) := by
  have hres := ofInt_difference a b c
  rw [setWidth_ofBool] at hres
  simp only [sub8, subFlags, sz53_eq, halfBorrow_byte, lookup_ovSub, flagByte_subtract, flagByte_eq, ← hres]
  ac_rfl

theorem cp8_eq (a b : Byte) : cp8 a b = subFlags a b false b := by
  obtain ⟨-, h53, -⟩ := flags_masked b
  rw [cp8, sub8_snd, h53]
  exact flagByte_copy53 ..

theorem add16_fst (f : Byte) (a b : Word) : (add16 f a b).1 = a + b := by
  have hsum : BitVec.ofNat 16 (a.toNat + b.toNat) = a + b := by simpa using ofNat_sum a b false
  exact hsum

theorem add16_snd (f : Byte) (a b : Word) : (add16 f a b).2 = add16Flags f a b := by
  have hcarry := halfCarry_word a b false
  simp only [Bool.toNat_false, Nat.add_zero] at hcarry
  simp only [add16, add16Flags, flags_masked, hcarry, flagByte_eq, Word.getLsbD_hi, Nat.reduceLT, Nat.reduceAdd]
  ac_rfl

theorem adc16_snd (a b : Word) (c : Bool) : (adc16 a b c).2 = adcFlags a b c := by
  simp only [adc16, adcFlags, flags_masked, halfCarry_word, lookup_ovAdd, flagByte_eq, Word.getLsbD_hi, Nat.reduceLT,
    Nat.reduceAdd]
  ac_rfl

theorem sbc16_snd (a b : Word) (c : Bool) : (sbc16 a b c).2 = sbcFlags a b c := by
  simp only [sbc16, sbcFlags, flags_masked, halfBorrow_word, lookup_ovSub, flagByte_subtract, flagByte_eq,
    Word.getLsbD_hi, Nat.reduceLT, Nat.reduceAdd]
  ac_rfl

end Sys2Proof.Machine

namespace Sys2Proof
open Machine

/-- Settles O46: the masks of each F commute, and the table entries among them are the carries and borrows of the sums. -/
theorem flagClosedForms : Obligations.FlagClosedForms :=
  ⟨fun v => ⟨rfl, (parity_eq v).1, rfl, (parity_eq v).2⟩, fun a b c => ⟨add8_snd a b c, add8_fst a b c⟩,
    fun a b c => ⟨sub8_snd a b c, sub8_fst a b c⟩, cp8_eq, fun f a b => ⟨add16_snd f a b, add16_fst f a b⟩,
    fun a b c => ⟨adc16_snd a b c, rfl⟩, fun a b c => ⟨sbc16_snd a b c, rfl⟩⟩

end Sys2Proof
end

section
/-! The 8-bit loads and stores (41_load8.md): the operand forms under a substitution in the terms of Safety.lean, and the end
of an instruction that writes one. -/

namespace Sys2Proof.Machine

/-! ### Operand forms under the substitution in force -/

theorem State.indexed_eq (s : State) (d : Byte) : s.indexed d = displaced s.hlx d := (displaced_eq s.hlx d).symm

theorem State.half_eq (s : State) (h : Half) : s.half h = halfOf h s.hlx := by
  cases h
  · exact (halfOf_high s.hlx).symm
  · exact (halfOf_low s.hlx).symm

theorem State.setHalf_eq (s : State) (h : Half) (v : Byte) : s.setHalf h v = s.setHlx (withHalf h s.hlx v) := by
  cases h
  · rw [withHalf_high, State.setHalf]
  · rw [withHalf_low, State.setHalf]

theorem State.regx_eq (s : State) (r : Reg8) : s.regx r = s.regWith s.hlx r := by
  cases r
  case h => exact s.half_eq .high
  case l => exact s.half_eq .low
  all_goals rfl

theorem State.setA_eq (s : State) (v : Byte) : s.setA v = s.setReg .a v := rfl

@[simp] theorem State.regWith_fetched_select (s : State) (len rinc : Nat) (x : IndexSel) (w : Word) (r : Reg8) :
    ((s.fetched len rinc).select x).regWith w r = s.regWith w r := by
  cases r <;> rfl

/-! ### The end of an instruction that writes an index register -/

@[simp] theorem State.retire_setHlx_ix (s : State) (len rinc cost : Nat) (v : Word) :
    (((s.fetched len rinc).select .ix).setHlx v).retire cost = { s.after len rinc cost with ix := v } := by
  rw [← retire_fetched]
  rfl

@[simp] theorem State.retire_setHlx_iy (s : State) (len rinc cost : Nat) (v : Word) :
    (((s.fetched len rinc).select .iy).setHlx v).retire cost = { s.after len rinc cost with iy := v } := by
  rw [← retire_fetched]
  rfl

/-! ### The flags of LD A,I and LD A,R -/

theorem and_flagC (f : Byte) : f &&& flagC = flagIf (f.getLsbD 0) flagC := by
  revert f
  decide

/-- 41_load8.md R216, R217: H and N are 0, PV is IFF2, C is kept. -/
theorem ldAirFlags_eq (f v : Byte) (iff2 : Bool) :
    ldAirFlags f v iff2 =
      flagByte (v.getLsbD 7) (v == 0) (v.getLsbD 5) false (v.getLsbD 3) iff2 false (f.getLsbD 0) := by
  have hh : flagIf false flagH = 0#8 := rfl
  rw [ldAirFlags, and_flagC, sz53_eq, flagByte_eq, hh, BitVec.or_zero]
  ac_rfl

end Sys2Proof.Machine

namespace Sys2Proof
open Machine

/-- Settles O27: each row is one register write, of a value that reads after the fetch as it reads before. -/
theorem loadRegister : Obligations.LoadRegister := by
  intro s r q n d nn h
  simp only [exec, execLdRR, execLdRN, execLdRMemHl, execLdAMemBc, execLdAMemDe, execLdAMemNn, execLdRMemIx, execLdRMemIy,
    execLdRIxHalf, execLdRIyHalf, perform_eq, performIndexed_eq]
  simp [State.setA_eq, State.indexed_eq, State.half_eq]

/-- Settles O29: the write of a half under the substitution is the write of IX or IY with that half replaced. -/
theorem loadIndexHalf : Obligations.LoadIndexHalf := by
  intro s h r n
  simp only [exec, execLdIxHalfR, execLdIxHalfN, execLdIyHalfR, execLdIyHalfN, performIndexed_eq]
  simp [State.setHalf_eq, State.regx_eq]

/-- Settles O30: each row is one store, at an address that reads after the fetch as it reads before. -/
theorem storeByte : Obligations.StoreByte := by
  intro s r n d nn
  simp only [exec, execLdMemHlR, execLdMemHlN, execLdMemBcA, execLdMemDeA, execLdMemNnA, execLdMemIxR, execLdMemIxN,
    execLdMemIyR, execLdMemIyN, perform_eq, performIndexed_eq]
  simp [State.indexed_eq]

/-- Settles O31: the flags by `ldAirFlags_eq`; R after the fetch is `refreshed`, which LD A,R reads and LD R,A overwrites. -/
theorem loadIAndR : Obligations.LoadIAndR := by
  intro s
  simp only [← retire_fetched, ← bumpRTimes_eq, ← ldAirFlags_eq]
  exact ⟨rfl, rfl, rfl, rfl⟩

end Sys2Proof
end

section
/-! The 16-bit loads, the stack and the exchanges (42_load16_exchange.md): the pairs `rp` with no substitution in force, and
the operations on a word as operations on its two bytes. -/

namespace Sys2Proof.Machine

/-! ### The pairs with no substitution in force -/

@[simp] theorem State.fetched_pair (s : State) (len rinc : Nat) (p : Pair) :
    (s.fetched len rinc).pair p = s.pairWith s.hl p := by
  cases p <;> rfl

/-- Code 2 names HL before the end of the instruction as after it. -/
@[simp] theorem State.retire_setPair_fetched (s : State) (len rinc cost : Nat) (p : Pair) (v : Word) :
    ((s.fetched len rinc).setPair p v).retire cost = ((s.fetched len rinc).retire cost).setPair p v := by
  cases p <;> rfl

theorem State.setHL_setDE_swap (s : State) :
    (s.setDE s.hl).setHL s.de =
      { s with main := { s.main with d := s.main.h, e := s.main.l, h := s.main.d, l := s.main.e } } := by
  simp only [State.setDE, State.setHL, State.de, State.hl, Word.hi_mk, Word.lo_mk]

/-! ### A word in memory as its two bytes, in the terms of Safety.lean -/

/-- 20_memory.md R71 (c). -/
theorem State.writeWord_halves (s : State) (a v : Word) :
    s.writeWord a v = (s.writeByte a (halfOf .low v)).writeByte (a + 1) (halfOf .high v) := by
  rw [halfOf_low, halfOf_high, State.writeWord]

/-- 20_memory.md R71 (d), at addresses counted from the SP before the push. -/
theorem State.push16_halves (s : State) (v : Word) :
    s.push16 v =
      { (s.writeByte (s.sp - 1) (halfOf .high v)).writeByte (s.sp - 2) (halfOf .low v) with sp := s.sp - 2 } := by
  rw [halfOf_low, halfOf_high, State.push16_eq]

/-- 20_memory.md R71 (f): the word read is the one before both writes. -/
theorem State.exchangeTop_halves (s : State) :
    s.exchangeTop =
      ((s.writeByte (s.sp + 1) (halfOf .high s.hlx)).writeByte s.sp (halfOf .low s.hlx)).setHlx
        (Word.mk (s.readByte (s.sp + 1)) (s.readByte s.sp)) := by
  rw [halfOf_low, halfOf_high]
  rfl

end Sys2Proof.Machine

namespace Sys2Proof
open Machine

/-- Settles O32: a pair code by `retire_setPair_fetched`; every other row writes one named register between the fetch and the
end. -/
theorem loadPair : Obligations.LoadPair := by
  intro s p nn word
  have hpair (len rinc cost : Nat) (v : Word) :
      perform len rinc cost (fun t => t.setPair p v) s = .next (((s.fetched len rinc).retire cost).setPair p v) :=
    congrArg _ (State.retire_setPair_fetched s len rinc cost p v)
  simp only [← retire_fetched]
  exact ⟨hpair 3 1 10 nn, rfl, hpair 4 2 20 word, rfl, rfl, rfl, rfl, rfl, rfl, rfl⟩

/-- Settles O33: each row is one `writeWord`, of a pair that reads after the fetch as it reads before. -/
theorem storeWord : Obligations.StoreWord := by
  intro s p nn store
  simp only [exec, execLdMemNnHl, execLdMemNnRp, execLdMemNnIx, execLdMemNnIy, perform_eq, performIndexed_eq]
  simp [State.writeWord_halves, store]

/-- Settles O34: a push by `push16_halves`, a pop of a pair by `retire_setStackPair`; the pops of IX and IY write one named
register between the fetch and the end. -/
theorem pushAndPop : Obligations.PushAndPop := by
  intro s p push top
  have hpush (t : State) (w : Word) (ht : t.sp = s.sp) : t.push16 w = push t w := by rw [State.push16_halves, ht]
  simp only [exec, execPushRp2, execPushIx, execPushIy, execPopRp2, perform_eq, performIndexed_eq, State.retire_push16,
    State.retire_setStackPair, State.fetched_stackPair, ← retire_fetched]
  exact ⟨congrArg _ (hpush _ _ rfl), congrArg _ (hpush _ _ rfl), congrArg _ (hpush _ _ rfl), rfl, rfl, rfl⟩

/-- Settles O35: EX DE,HL by `setHL_setDE_swap`, the exchanges with the stack by `exchangeTop_halves`; EX AF,AF' and EXX move
the fields of the two register sets themselves. -/
theorem exchanges : Obligations.Exchanges := by
  intro s swap top
  simp only [exec, execExDeHl, execExMemSpHl, execExMemSpIx, execExMemSpIy, perform_eq, performIndexed_eq,
    State.setHL_setDE_swap, State.exchangeTop_halves, ← retire_fetched]
  exact ⟨rfl, rfl, rfl, rfl, rfl, rfl⟩

end Sys2Proof
end

section
/-! The block instructions (43_block.md): the flags of an element in closed form, and an element on the state after the fetch
as its effect on the state after the instruction. -/

namespace Sys2Proof.Machine

/-! ### The flags of an element -/

theorem flagByte_orN (s z f5 h f3 pv n c : Bool) :
    flagByte s z f5 h f3 pv n c = flagByte s z f5 h f3 pv false c ||| flagIf n flagN := by
  cases n
  · exact BitVec.or_zero.symm
  · exact flagByte_subtract s z f5 h f3 pv c

theorem and_flagS (v : Byte) : v &&& flagS = flagIf (v.getLsbD 7) flagS := by
  revert v
  decide

theorem and_flagSZC (f : Byte) :
    f &&& (flagS ||| flagZ ||| flagC) =
      flagIf (f.getLsbD 7) flagS ||| flagIf (f.getLsbD 6) flagZ ||| flagIf (f.getLsbD 0) flagC := by
  revert f
  decide

theorem flagIf_or (c : Bool) (m n : Byte) : flagIf c (m ||| n) = flagIf c m ||| flagIf c n := by
  cases c
  · exact BitVec.or_zero.symm
  · rfl

theorem flagIf_flagH_ne_zero (h : Bool) : (if flagIf h flagH != 0 then (1 : Byte) else 0) = Byte.ofBool h := by
  cases h <;> rfl

theorem parity_eq_flagIf (v : Byte) : parity v = flagIf (onesBelow 8 v.toNat % 2 == 0) flagPV := by
  rw [(parity_eq v).1, flagIf, flagPV]
  simp only [beq_iff_eq]

/-- The half-borrow of a difference without a borrow in. -/
theorem halfBorrow_sub (a v : Byte) :
    lookup hcSub (hidx a v (a - v) 3) = flagIf (decide (a.toNat % 16 < v.toNat % 16)) flagH := by
  have h := halfBorrow_byte a v false
  have hdiff : BitVec.ofInt 8 (a.toNat - v.toNat - false.toNat) = a - v := by
    rw [ofInt_difference]
    exact BitVec.sub_zero (a - v)
  rwa [hdiff] at h

/-- 43_block.md R282: H and N are 0. -/
theorem ldiFlags_eq (f n : Byte) (bc : Word) :
    ldiFlags f n bc =
      flagByte (f.getLsbD 7) (f.getLsbD 6) (n.getLsbD 1) false (n.getLsbD 3) (bc != 0) false (f.getLsbD 0) := by
  have hh : flagIf false flagH = 0#8 := rfl
  rw [ldiFlags, and_flagSZC, flagByte_eq, hh, BitVec.or_zero]
  ac_rfl

/-- 43_block.md R286: bits 5 and 3 are those of the difference less the half-borrow. -/
theorem cpiFlags_eq (f a v : Byte) (bc : Word) :
    let h := decide (a.toNat % 16 < v.toNat % 16)
    let n := a - v - Byte.ofBool h
    cpiFlags f a v bc =
      flagByte ((a - v).getLsbD 7) (a - v == 0) (n.getLsbD 1) h (n.getLsbD 3) (bc != 0) true (f.getLsbD 0) := by
  simp only [cpiFlags, halfBorrow_sub, flagIf_flagH_ne_zero, and_flagC, and_flagS, flagByte_subtract, flagByte_eq]
  ac_rfl

/-- 43_block.md R290, R294: H and C are both the carry of `k`. -/
theorem blockIoFlags_eq (b v : Byte) (k : Nat) : blockIoFlags b v k = portElementFlags b v k := by
  rw [blockIoFlags, portElementFlags, flagByte_orN, flagByte_eq, sz53_eq, flagIf_or, parity_eq_flagIf]
  ac_rfl

/-! ### An element and its effect -/

/-- `element`, run from `s` after the fetch, has the effect `effect`, which commutes with `retire` and with the rewind of a
repeating block instruction (43_block.md R280): neither writes a field that the effect reads. -/
structure Performs (s : State) (element effect : State → State) : Prop where
  fetched : element (s.fetched 2 2) = effect (s.fetched 2 2)
  retire : ∀ t cost, (effect t).retire cost = effect (t.retire cost)
  rewind : ∀ t, (effect t).rewindBlock = effect t.rewindBlock

/-- 43_block.md R280: the two bytes fetched and the rewind cancel. -/
theorem State.rewindBlock_fetched_retire (s : State) :
    ((s.fetched 2 2).rewindBlock).retire 21 = { s.after 2 2 21 with pc := s.pc } := by
  have hpc : s.pc + BitVec.ofNat 16 2 - 2 = s.pc := BitVec.add_sub_cancel s.pc 2
  rw [State.rewindBlock, State.fetched_pc, hpc, ← retire_fetched]
  rfl

section
variable {s : State} {element effect : State → State}

theorem Performs.perform (h : Performs s element effect) :
    perform 2 2 16 element s = .next (effect (s.after 2 2 16)) := by
  rw [perform_eq, h.fetched, h.retire, retire_fetched]

theorem Performs.endElement_last (h : Performs s element effect) (mask : Byte) :
    (element (s.fetched 2 2)).endElement false mask = .next (effect (s.after 2 2 16)) := h.perform

theorem Performs.endElement_repeats (h : Performs s element effect) (mask : Byte) :
    (element (s.fetched 2 2)).endElement true mask = .next (repeated s effect mask) := by
  have hend : ((element (s.fetched 2 2)).rewindBlock).retire 21 = effect { s.after 2 2 21 with pc := s.pc } := by
    rw [h.fetched, h.rewind, h.retire, State.rewindBlock_fetched_retire]
  calc (element (s.fetched 2 2)).endElement true mask
      = .next ((((element (s.fetched 2 2)).rewindBlock).retire 21).drawIntoF mask) := rfl
    _ = .next (repeated s effect mask) := by
      rw [hend]
      rfl

/-- 43_block.md R280: the element is the last one, or the instruction repeats. -/
theorem Performs.endElement (h : Performs s element effect) (mask : Byte) {again : Bool} {last : Prop} [Decidable last]
    (hagain : again = !decide last) :
    (element (s.fetched 2 2)).endElement again mask =
      .next (if last then effect (s.after 2 2 16) else repeated s effect mask) := by
  by_cases hlast : last
  · rw [hagain, decide_eq_true hlast, if_pos hlast]
    exact h.endElement_last mask
  · rw [hagain, decide_eq_false hlast, if_neg hlast]
    exact h.endElement_repeats mask

end

theorem sub_bne_zero {w : Nat} (a b : BitVec w) : (a - b != 0) = !decide (a = b) := by
  rw [bne, Bool.beq_eq_decide_eq]
  simp only [sub_eq_zero]

/-- A count that an element lowers by 1 is 0 after it exactly where it was 1. -/
theorem lowered_bne_zero {w : Nat} {n left : BitVec w} (h : left = n - 1) : (left != 0) = !decide (n = 1) := by
  rw [h, sub_bne_zero]

/-! ### Transfer and search -/

theorem loadElement_eq (t : State) (inc : Word) : t.loadElement inc = movedElement t t inc := by
  rw [State.loadElement, ldiFlags_eq]
  rfl

theorem compareElement_eq (t : State) (inc : Word) : t.compareElement inc = searchedElement t t inc := by
  rw [State.compareElement, cpiFlags_eq]
  rfl

theorem performs_loadElement (s : State) (inc : Word) :
    Performs s (fun t => t.loadElement inc) (fun t => movedElement s t inc) where
  fetched := loadElement_eq (s.fetched 2 2) inc
  retire _ _ := rfl
  rewind _ := rfl

theorem performs_compareElement (s : State) (inc : Word) :
    Performs s (fun t => t.compareElement inc) (fun t => searchedElement s t inc) where
  fetched := compareElement_eq (s.fetched 2 2) inc
  retire _ _ := rfl
  rewind _ := rfl

theorem State.element_bc (t : State) (inc : Word) :
    (t.loadElement inc).bc = t.bc - 1 ∧ (t.compareElement inc).bc = t.bc - 1 :=
  ⟨Word.mk_hi_lo (t.bc - 1), Word.mk_hi_lo (t.bc - 1)⟩

/-- 43_block.md R288, R289: a search goes on unless the count was 1 or the byte is A. -/
theorem searchesOn_eq (s : State) (inc : Word) :
    (((s.fetched 2 2).compareElement inc).bc != 0 && s.main.a - s.readByte s.hl != 0) =
      !decide (s.bc = 1 ∨ s.main.a = s.readByte s.hl) := by
  rw [lowered_bne_zero (State.element_bc (s.fetched 2 2) inc).2, sub_bne_zero, Bool.decide_or, Bool.not_or]
  rfl

/-! ### Input and output -/

/-- 20_memory.md R63: a port read that the host has a byte ready for. -/
theorem State.ioRead_prepared {s : State} {v : Byte} {l : List Byte} (h : s.portInput = v :: l) (p : Word) :
    s.ioRead p = (v, { s with portInput := l, events := s.events ++ [HookEvent.ioRead p v] }) := by
  rw [State.ioRead, h]

/-- What an element of INI (`inc` = 1) or IND (`inc` = -1) does after its port read, which answered `v`. -/
def inputEffect (s : State) (v : Byte) (inc : Word) (t : State) : State :=
  (((t.writeByte s.hl v).setB (s.main.b - 1)).setHL (s.hl + inc)).withF
    (portElementFlags (s.main.b - 1) v (v.toNat + (s.main.c + inc.lo).toNat))

/-- What an element of OUTI (`inc` = 1) or OUTD (`inc` = -1) does. -/
def outputEffect (s : State) (inc : Word) (t : State) : State :=
  let v := s.readByte s.hl
  let u := { t with events := s.events ++ [HookEvent.ioWrite (Word.mk (s.main.b - 1) s.main.c) v] }
  ((u.setB (s.main.b - 1)).setHL (s.hl + inc)).withF
    (portElementFlags (s.main.b - 1) v (v.toNat + (s.hl + inc).toNat % 256))

theorem inputElement_eq (t : State) (inc : Word) :
    t.inputElement inc = inputEffect t (t.ioRead t.bc).1 inc (t.ioRead t.bc).2 := by
  rw [State.inputElement, blockIoFlags_eq]
  rfl

theorem Word.toNat_lo (w : Word) : w.lo.toNat = w.toNat % 256 := by
  rw [← halfOf_low, halfOf, BitVec.toNat_ofNat, Nat.mod_mod]

theorem outputElement_eq (t : State) (inc : Word) : t.outputElement inc = outputEffect t inc t := by
  rw [State.outputElement, blockIoFlags_eq, Word.toNat_lo]
  rfl

theorem performs_outputElement (s : State) (inc : Word) :
    Performs s (fun t => t.outputElement inc) (outputEffect s inc) where
  fetched := outputElement_eq (s.fetched 2 2) inc
  retire _ _ := rfl
  rewind _ := rfl

theorem State.element_b (t : State) (inc : Word) :
    (t.inputElement inc).main.b = t.main.b - 1 ∧ (t.outputElement inc).main.b = t.main.b - 1 := ⟨rfl, rfl⟩

section
variable {s : State} {v : Byte} {read : State → Word → State}

theorem performs_inputElement (hv : ((s.fetched 2 2).ioRead s.bc).1 = v)
    (h : Performs s (fun t => (t.ioRead s.bc).2) fun t => read t s.bc) (inc : Word) :
    Performs s (fun t => t.inputElement inc) (fun t => inputEffect s v inc (read t s.bc)) where
  fetched := by
    have hbc : (s.fetched 2 2).bc = s.bc := rfl
    rw [inputElement_eq, hbc, hv]
    exact congrArg (inputEffect s v inc) h.fetched
  retire t cost := congrArg (inputEffect s v inc) (h.retire t cost)
  rewind t := congrArg (inputEffect s v inc) (h.rewind t)

/-- 43_block.md R290 to R293, whatever the port answers. -/
theorem blockInputsGive (hv : ((s.fetched 2 2).ioRead s.bc).1 = v)
    (h : Performs s (fun t => (t.ioRead s.bc).2) fun t => read t s.bc) : BlockInputsGive s v read :=
  have element := performs_inputElement hv h
  have repeats (inc : Word) := (element inc).endElement ioDraws (lowered_bne_zero (State.element_b (s.fetched 2 2) inc).1)
  ⟨(element 1).perform, (element (-1)).perform, (repeats 1).trans (apply_ite _ _ _ _),
    (repeats (-1)).trans (apply_ite _ _ _ _)⟩

end

end Sys2Proof.Machine

namespace Sys2Proof
open Machine

/-- Settles O36: BC is one less after the element, so the repeating forms end where it was 1. -/
theorem blockTransfer : Obligations.BlockTransfer := by
  intro s
  have element := performs_loadElement s
  have repeats (inc : Word) := (element inc).endElement moveDraws (lowered_bne_zero (State.element_bc (s.fetched 2 2) inc).1)
  exact ⟨(element 1).perform, (element (-1)).perform, repeats 1, repeats (-1)⟩

/-- Settles O37: the condition of R288 and R289 is the negation of `last`, by `searchesOn_eq`. -/
theorem blockSearch : Obligations.BlockSearch := by
  intro s last
  have element := performs_compareElement s
  have ends (inc : Word) := (element inc).endElement moveDraws (searchesOn_eq s inc)
  have stops (inc : Word) (h : last) := (ends inc).trans (congrArg _ (if_pos h))
  have repeats (inc : Word) (h : ¬ last) := (ends inc).trans (congrArg _ (if_neg h))
  exact ⟨(element 1).perform, (element (-1)).perform, stops 1, repeats 1, stops (-1), repeats (-1)⟩

/-- Settles O38: the prepared byte is what the port answers, and taking it is the read. -/
theorem blockInput : Obligations.BlockInput := by
  intro s v l h
  have hread := State.ioRead_prepared (s := s.fetched 2 2) h s.bc
  exact blockInputsGive (congrArg Prod.fst hread) ⟨congrArg Prod.snd hread, fun _ _ => rfl, fun _ => rfl⟩

/-- Settles O39: the output is an event at the new B, which the repeating forms test. -/
theorem blockOutput : Obligations.BlockOutput := by
  intro s
  have element := performs_outputElement s
  have repeats (inc : Word) := (element inc).endElement ioDraws (lowered_bne_zero (State.element_b (s.fetched 2 2) inc).2)
  exact ⟨(element 1).perform, (element (-1)).perform, (repeats 1).trans (apply_ite _ _ _ _),
    (repeats (-1)).trans (apply_ite _ _ _ _)⟩

end Sys2Proof
end

section
/-! The 8-bit arithmetic and logic instructions (44_alu8.md): each result and its flags in the closed forms of Safety.lean, and
the eight operations `alu[y]` as one operation on the operand. -/

namespace Sys2Proof.Machine

/-! ### The flags in closed form -/

theorem flagIf_false (m : Byte) : flagIf false m = 0#8 := rfl

/-- `sz53p` is the flags of a result with H, N and C clear; each of these is a mask of its own. -/
theorem parityFlags_eq (res : Byte) (h n c : Bool) :
    parityFlags res h n c = sz53p res ||| flagIf h flagH ||| flagIf n flagN ||| flagIf c flagC := by
  rw [(parity_eq res).2, parityFlags, parityFlags, flagByte_orN, flagByte_eq, flagByte_eq]
  simp only [flagIf_false, BitVec.or_zero]
  ac_rfl

theorem and_flagN (f : Byte) : f &&& flagN = flagIf (f.getLsbD 1) flagN := by
  revert f
  decide

theorem and_flagSZPVC (f : Byte) :
    f &&& (flagS ||| flagZ ||| flagPV ||| flagC) =
      flagIf (f.getLsbD 7) flagS ||| flagIf (f.getLsbD 6) flagZ ||| flagIf (f.getLsbD 2) flagPV |||
        flagIf (f.getLsbD 0) flagC := by
  revert f
  decide

/-- The low digit is a remainder. -/
theorem toNat_lowDigit (v : Byte) : (v &&& 0x0F).toNat = v.toNat % 16 := by
  rw [BitVec.toNat_and]
  exact Nat.and_two_pow_sub_one_eq_mod v.toNat 4

theorem lowDigit_beq_zero (v : Byte) : (v &&& 0x0F == 0) = (v.toNat % 16 == 0) := by
  rw [← toNat_lowDigit, Bool.beq_eq_decide_eq, Bool.beq_eq_decide_eq]
  exact decide_eq_decide.2 BitVec.toNat_inj.symm

/-- A draw of F.5 and F.3 (92_eei_decisions.md D19) replaces those two flags. -/
theorem replaceBits_flags53 (s z f5 h f3 pv n c : Bool) (x : Byte) :
    replaceBits (flag5 ||| flag3) (flagByte s z f5 h f3 pv n c) x =
      flagByte s z (x.getLsbD 5) h (x.getLsbD 3) pv n c := by
  obtain ⟨-, h53, -⟩ := flags_masked x
  have hmask : flag5 ||| flag3 = 0x28 := rfl
  rw [replaceBits, hmask, h53]
  exact flagByte_copy53 ..

/-! ### The generators -/

theorem add8_eq (a b : Byte) (c : Bool) : add8 a b c = (a + b + Byte.ofBool c, addFlags a b c) :=
  Prod.ext (add8_fst a b c) (add8_snd a b c)

theorem sub8_eq (a b : Byte) (c : Bool) :
    sub8 a b c = (a - b - Byte.ofBool c, subFlags a b c (a - b - Byte.ofBool c)) :=
  Prod.ext (sub8_fst a b c) (sub8_snd a b c)

theorem add8_noCarry (a b : Byte) : add8 a b false = (a + b, addFlags a b false) := by
  have hzero : a + b + Byte.ofBool false = a + b := BitVec.add_zero (a + b)
  rw [add8_eq, hzero]

theorem sub8_noBorrow (a b : Byte) : sub8 a b false = (a - b, subFlags a b false (a - b)) := by
  have hzero : a - b - Byte.ofBool false = a - b := BitVec.sub_zero (a - b)
  rw [sub8_eq, hzero]

theorem logic8_eq (res : Byte) (h : Bool) : logic8 res h = parityFlags res h false false := by
  simp only [logic8, parityFlags_eq, flagIf_false, BitVec.or_zero]

theorem inc8_eq (f v : Byte) : inc8 f v = (v + 1, incFlags f (v + 1)) := by
  simp only [inc8, incFlags, and_flagC, sz53_eq, lowDigit_beq_zero, flagByte_eq]
  congr 1
  ac_rfl

theorem dec8_eq (f v : Byte) : dec8 f v = (v - 1, decFlags f v (v - 1)) := by
  simp only [dec8, decFlags, and_flagC, sz53_eq, lowDigit_beq_zero, flagByte_subtract, flagByte_eq]
  congr 1
  ac_rfl

/-! ### Instructions that write A and F: the eight operations -/

theorem State.setF_eq (t : State) (f : Byte) : t.setF f = t.withF f := rfl

@[simp] theorem State.retire_withAF (s : State) (cost : Nat) (x : Bool) (af : Byte × Byte) :
    (s.withAF af).retire cost x = (s.retire cost x).withAF af := rfl

/-- An instruction that only writes A and F. -/
theorem perform_setAcc (len rinc cost : Nat) (af : State → Byte × Byte) (s : State) :
    perform len rinc cost (fun t => t.setAcc (af t)) s = .next ((s.after len rinc cost).withAF (af (s.fetched len rinc))) := by
  rw [← retire_fetched]
  rfl

/-- `alu[y]` on the operand `v` (44_alu8.md rules R320 to R328). -/
def State.alu (y : Nat) (t : State) (v : Byte) : State :=
  match y with
  | 0 => t.aluAdd v
  | 1 => t.aluAdc v
  | 2 => t.aluSub v
  | 3 => t.aluSbc v
  | 4 => t.aluAnd v
  | 5 => t.aluXor v
  | 6 => t.aluOr v
  | _ => t.aluCp v

/-- 44_alu8.md R320: the rows of `alu[y]` differ in the operand alone. -/
theorem exec_aluRows (y : Nat) (r : Reg8) (h : Half) (n d : Byte) :
    exec (aluRegRow y r) = perform 1 1 4 (fun t => t.alu y (t.reg r)) ∧
    exec (aluMemRow y) = perform 1 1 7 (fun t => t.alu y (t.readByte t.hl)) ∧
    exec (aluImmRow y n) = perform 2 1 7 (fun t => t.alu y n) ∧
    exec (aluIxHalfRow y h) = performIndexed .ix 2 8 (fun t => t.alu y (t.half h)) ∧
    exec (aluIyHalfRow y h) = performIndexed .iy 2 8 (fun t => t.alu y (t.half h)) ∧
    exec (aluIxMemRow y d) = performIndexed .ix 3 19 (fun t => t.alu y (t.readByte (t.indexed d))) ∧
    exec (aluIyMemRow y d) = performIndexed .iy 3 19 (fun t => t.alu y (t.readByte (t.indexed d))) := by
  match y with
  | 0 | 1 | 2 | 3 | 4 | 5 | 6 | _ + 7 => exact ⟨rfl, rfl, rfl, rfl, rfl, rfl, rfl⟩

/-- 44_alu8.md R321 to R328. -/
theorem State.alu_eq (t : State) (y : Fin 8) (v : Byte) : t.alu y v = t.withAF (aluResult y t.main.a t.main.f v) := by
  match y with
  | 0 => exact congrArg t.withAF (add8_noCarry t.main.a v)
  | 1 => exact congrArg t.withAF (add8_eq t.main.a v t.carry)
  | 2 => exact congrArg t.withAF (sub8_noBorrow t.main.a v)
  | 3 => exact congrArg t.withAF (sub8_eq t.main.a v t.carry)
  | 4 => exact congrArg (fun f => t.withAF (t.main.a &&& v, f)) (logic8_eq (t.main.a &&& v) true)
  | 5 => exact congrArg (fun f => t.withAF (t.main.a ^^^ v, f)) (logic8_eq (t.main.a ^^^ v) false)
  | 6 => exact congrArg (fun f => t.withAF (t.main.a ||| v, f)) (logic8_eq (t.main.a ||| v) false)
  | 7 => exact congrArg t.withF (cp8_eq t.main.a v)

/-! ### INC and DEC -/

/-- 44_alu8.md R329, R331. -/
theorem State.incDecReg_eq (t : State) (r : Reg8) :
    t.incReg r = (t.setReg r (t.reg r + 1)).setF (incFlags t.main.f (t.reg r + 1)) ∧
    t.decReg r = (t.setReg r (t.reg r - 1)).setF (decFlags t.main.f (t.reg r) (t.reg r - 1)) := by
  rw [State.incReg, State.decReg, inc8_eq, dec8_eq]
  exact ⟨rfl, rfl⟩

theorem State.incDecHalf_eq (t : State) (h : Half) :
    t.incHalf h = (t.setHalf h (t.half h + 1)).setF (incFlags t.main.f (t.half h + 1)) ∧
    t.decHalf h = (t.setHalf h (t.half h - 1)).setF (decFlags t.main.f (t.half h) (t.half h - 1)) := by
  rw [State.incHalf, State.decHalf, inc8_eq, dec8_eq]
  exact ⟨rfl, rfl⟩

/-- 44_alu8.md R330, R332. -/
theorem State.incDecMem_eq (t : State) (a : Word) :
    t.incMem a = (t.writeByte a (t.readByte a + 1)).setF (incFlags t.main.f (t.readByte a + 1)) ∧
    t.decMem a = (t.writeByte a (t.readByte a - 1)).setF (decFlags t.main.f (t.readByte a) (t.readByte a - 1)) := by
  rw [State.incMem, State.decMem, inc8_eq, dec8_eq]
  exact ⟨rfl, rfl⟩

/-! ### CPL, CCF, SCF -/

/-- 44_alu8.md R334. -/
theorem cplFlags_eq (f v : Byte) :
    (f &&& (flagS ||| flagZ ||| flagPV ||| flagC)) ||| (v &&& 0x28) ||| flagH ||| flagN =
      flagByte (f.getLsbD 7) (f.getLsbD 6) (v.getLsbD 5) true (v.getLsbD 3) (f.getLsbD 2) true (f.getLsbD 0) := by
  obtain ⟨-, h53, -⟩ := flags_masked v
  have hh : flagIf true flagH = flagH := rfl
  rw [and_flagSZPVC, h53, flagByte_subtract, flagByte_eq, hh]
  ac_rfl

/-- 44_alu8.md R336, R337: S, Z and PV are kept, H and C are `h` and `c`, N is clear, F.5 and F.3 are drawn. -/
theorem State.keptSZPV_drawIntoF (t : State) (h c : Bool) :
    let f := t.main.f
    let x := Config.freeFlags t.draws
    (t.setF ((f &&& (flagS ||| flagZ ||| flagPV)) ||| (flagIf h flagH ||| flagIf c flagC))).drawIntoF (flag5 ||| flag3) =
      { t with draws := t.draws + 1 }.withF
        (flagByte (f.getLsbD 7) (f.getLsbD 6) (x.getLsbD 5) h (x.getLsbD 3) (f.getLsbD 2) false c) := by
  intro f x
  obtain ⟨-, -, hkept⟩ := flags_masked f
  have hset : (f &&& (flagS ||| flagZ ||| flagPV)) ||| (flagIf h flagH ||| flagIf c flagC) =
      flagByte (f.getLsbD 7) (f.getLsbD 6) false h false (f.getLsbD 2) false c := by
    simp only [hkept, flagByte_eq, flagIf_false, BitVec.or_zero]
    ac_rfl
  rw [hset, ← replaceBits_flags53 _ _ false h false]
  rfl

/-- CCF moves C to H and inverts it: one of the two masks remains. -/
theorem ccfMask_eq (c : Bool) : (if c then flagH else flagC) = flagIf c flagH ||| flagIf (!c) flagC := by
  cases c <;> rfl

/-! ### DAA -/

/-- The two digits' corrections do not overlap. -/
theorem correction_eq (low high : Bool) :
    (if high then (if low then 0x06 else 0) ||| 0x60 else (if low then 0x06 else 0) : Byte) =
      BitVec.ofNat 8 ((if low then 6 else 0) + (if high then 0x60 else 0)) := by
  cases low <;> cases high <;> rfl

/-- A byte with a number added or subtracted, computed as an integer. -/
theorem corrected_eq (a : Byte) (n : Bool) (k : Nat) :
    (if n then a - BitVec.ofNat 8 k else a + BitVec.ofNat 8 k) =
      if n then BitVec.ofInt 8 ((a.toNat : Int) - k) else BitVec.ofNat 8 (a.toNat + k) := by
  rw [sub_eq_add_neg (a.toNat : Int), BitVec.ofInt_add, BitVec.ofInt_neg, BitVec.ofInt_natCast, BitVec.ofInt_natCast,
    BitVec.ofNat_add, BitVec.ofNat_toNat, BitVec.setWidth_eq, sub_eq_add_neg]

/-- 44_alu8.md R333. -/
theorem daa_eq (a f : Byte) :
    let low := f.getLsbD 4 || decide (a.toNat % 16 > 9)
    let high := f.getLsbD 0 || decide (a.toNat > 0x99)
    let n := f.getLsbD 1
    let add : Nat := (if low then 6 else 0) + (if high then 0x60 else 0)
    let res : Byte := if n then BitVec.ofInt 8 ((a.toNat : Int) - add) else BitVec.ofNat 8 (a.toNat + add)
    let h := if n then f.getLsbD 4 && decide (a.toNat % 16 < 6) else decide (a.toNat % 16 > 9)
    daa a f = (res, parityFlags res h n high) := by
  intro low high n add res h
  rw [parityFlags_eq, daa, toNat_lowDigit, correction_eq, corrected_eq, and_flagN]

end Sys2Proof.Machine

namespace Sys2Proof
open Machine

/-- Settles O40: each row is `alu[y]` of its operand, which reads after the fetch as it reads before. -/
theorem aluOperations : Obligations.AluOperations := by
  intro s y r h n d result
  obtain ⟨hreg, hmem, himm, hixHalf, hiyHalf, hixMem, hiyMem⟩ := exec_aluRows y r h n d
  simp only [hreg, hmem, himm, hixHalf, hiyHalf, hixMem, hiyMem, perform_eq, performIndexed_eq, State.alu_eq]
  simp [State.indexed_eq, State.half_eq, result]

/-- Settles O41: each row is one write and one of F, of an operand that reads after the fetch as it reads before. -/
theorem incrementDecrement : Obligations.IncrementDecrement := by
  intro s r h d f v x y inc dec
  simp only [exec, execIncR, execDecR, execIncIxHalf, execDecIxHalf, execIncIyHalf, execDecIyHalf, execIncMemHl, execDecMemHl,
    execIncMemIx, execDecMemIx, execIncMemIy, execDecMemIy, perform_eq, performIndexed_eq, State.incDecReg_eq,
    State.incDecHalf_eq, State.incDecMem_eq]
  simp [State.indexed_eq, State.half_eq, State.setHalf_eq, ← State.setF_eq, f, v, x, y, inc, dec]

/-- Settles O42: CPL and NEG write A and F; CCF and SCF write F and then draw two of its flags. -/
theorem accumulatorOps : Obligations.AccumulatorOps := by
  intro s y a f na x flags
  have draws (h c : Bool) :
      (((s.fetched 1 1).setF ((f &&& (flagS ||| flagZ ||| flagPV)) ||| (flagIf h flagH ||| flagIf c flagC))).drawIntoF
        (flag5 ||| flag3)).retire 4 = { s.after 1 1 4 with draws := s.draws + 1 }.withF (flags h c) := by
    rw [← retire_fetched]
    exact congrArg (fun u => u.retire 4) (State.keptSZPV_drawIntoF (s.fetched 1 1) h c)
  have hna : a ^^^ 0xFF = na := BitVec.xor_allOnes
  have hccf := draws (f.getLsbD 0) (!f.getLsbD 0)
  rw [← ccfMask_eq] at hccf
  refine ⟨?_, ?_, congrArg Host.Outcome.next hccf, congrArg Host.Outcome.next (draws false true)⟩
  · rw [exec, execCpl, perform_setAcc, ← hna, ← cplFlags_eq]
    rfl
  · rw [exec, execNeg, perform_setAcc, sub8_noBorrow]
    rfl

/-- Settles O43: DAA writes A and F as `daa_eq` gives them. -/
theorem decimalAdjust : Obligations.DecimalAdjust := by
  intro s
  rw [exec, execDaa, perform_setAcc, daa_eq]
  rfl

end Sys2Proof
end

section
/-! The 16-bit arithmetic instructions (45_alu16.md): each sum and difference with its flags in the closed forms of
Safety.lean, and `rp` under a substitution as `rp` with code 2 standing for the substituted pair. -/

namespace Sys2Proof.Machine

/-! ### The generators -/

theorem add16_eq (f : Byte) (a b : Word) : add16 f a b = (a + b, add16Flags f a b) :=
  Prod.ext (add16_fst f a b) (add16_snd f a b)

theorem adc16_eq (a b : Word) (c : Bool) :
    adc16 a b c = (BitVec.ofNat 16 (a.toNat + b.toNat + c.toNat), adcFlags a b c) :=
  Prod.ext rfl (adc16_snd a b c)

theorem sbc16_eq (a b : Word) (c : Bool) :
    sbc16 a b c = (BitVec.ofInt 16 (a.toNat - b.toNat - c.toNat), sbcFlags a b c) :=
  Prod.ext rfl (sbc16_snd a b c)

/-! ### HL and the pairs under the substitution in force -/

theorem State.pair_eq (t : State) (p : Pair) : t.pair p = t.pairWith t.hlx p := by
  cases p <;> rfl

@[simp] theorem State.pairWith_fetched (s : State) (len rinc : Nat) (w : Word) (p : Pair) :
    (s.fetched len rinc).pairWith w p = s.pairWith w p := by
  cases p <;> rfl

@[simp] theorem State.pairWith_select (s : State) (x : IndexSel) (w : Word) (p : Pair) :
    (s.select x).pairWith w p = s.pairWith w p := by
  cases p <;> rfl

@[simp] theorem State.setHlx_fetched (s : State) (len rinc : Nat) (v : Word) :
    (s.fetched len rinc).setHlx v = (s.fetched len rinc).setHL v := rfl

/-- 45_alu16.md R370, R371: both operands are read under the substitution that the sum is written under. -/
theorem State.addPair_eq (t : State) (p : Pair) :
    t.addPair p =
      (t.setHlx (t.hlx + t.pairWith t.hlx p)).setF (add16Flags t.main.f t.hlx (t.pairWith t.hlx p)) := by
  rw [State.addPair, add16_eq, State.pair_eq]

end Sys2Proof.Machine

namespace Sys2Proof
open Machine

/-- Settles O44: ADD by `addPair_eq`, ADC and SBC by `adc16_eq` and `sbc16_eq`; each row writes one pair and F, of a pair that
reads after the fetch as it reads before. -/
theorem arithmetic16 : Obligations.Arithmetic16 := by
  intro s p f c w x y
  simp only [exec, execAddHlRp, execAddIxRp, execAddIyRp, execAdcHlRp, execSbcHlRp, perform_eq, performIndexed_eq,
    State.addPair_eq, adc16_eq, sbc16_eq]
  simp [State.carry, ← State.setF_eq, f, c, w, x, y]

/-- Settles O45: each row is one write of a pair, whose value reads after the fetch as it reads before; F is not written. -/
theorem incDecPair : Obligations.IncDecPair := by
  intro s p
  simp only [exec, execIncRp, execDecRp, execIncIx, execDecIx, execIncIy, execDecIy, perform_eq, performIndexed_eq]
  simp

end Sys2Proof
end

section
/-! The rotate, shift and bit instructions (46_rotate_bit.md): the eight operations `rot[y]` as one operation, in arithmetic on
the byte; RES and SET as the other bits with one bit added; and the flags of each group in the closed forms of Safety.lean. -/

namespace Sys2Proof.Machine

/-! ### A byte shifted by one place -/

theorem bit7_eq (v : Byte) : v.getLsbD 7 = (v.toNat / 128 == 1) ∧ (v.getLsbD 7).toNat = v.toNat / 128 := by
  revert v
  decide

theorem bit0_eq (v : Byte) : v.getLsbD 0 = (v.toNat % 2 == 1) ∧ (v.getLsbD 0).toNat = v.toNat % 2 := by
  revert v
  decide

theorem shiftUp_eq (v : Byte) (c : Bool) : (v <<< 1) ||| Byte.ofBool c = BitVec.ofNat 8 (2 * v.toNat + c.toNat) := by
  revert v c
  decide

theorem shiftDown_eq (v : Byte) (c : Bool) : (v >>> 1) ||| topBit c = BitVec.ofNat 8 (v.toNat / 2 + c.toNat * 128) := by
  revert v c
  decide

theorem and_topBit (v : Byte) : v &&& 0x80 = topBit (v.getLsbD 7) := by
  revert v
  decide

/-! ### The eight rotates and shifts -/

/-- `rot[y]` (46_rotate_bit.md rules R395 to R402). -/
def rotOp (y : Nat) : Byte → Bool → Byte × Bool :=
  match y with
  | 0 => rlc8
  | 1 => rrc8
  | 2 => rl8
  | 3 => rr8
  | 4 => sla8
  | 5 => sra8
  | 6 => sll8
  | _ => srl8

/-- 46_rotate_bit.md R395 to R402: a shift up or down by one place, with a bit of the byte, F.C, 0 or 1 moved in. -/
theorem rotOp_eq (y : Fin 8) (v : Byte) (c : Bool) : rotOp y v c = rotResult y v c := by
  obtain ⟨hup, hbit7⟩ := bit7_eq v
  obtain ⟨hdown, hbit0⟩ := bit0_eq v
  have up (x : Bool) {n : Nat} (hn : x.toNat = n) :
      ((v <<< 1) ||| Byte.ofBool x, v.getLsbD 7) = (BitVec.ofNat 8 (2 * v.toNat + n), v.toNat / 128 == 1) := by
    rw [shiftUp_eq, hn, hup]
  have down (x : Bool) {n : Nat} (hn : x.toNat = n) :
      ((v >>> 1) ||| topBit x, v.getLsbD 0) = (BitVec.ofNat 8 (v.toNat / 2 + n * 128), v.toNat % 2 == 1) := by
    rw [shiftDown_eq, hn, hdown]
  match y with
  | 0 => exact up (v.getLsbD 7) hbit7
  | 1 => exact down (v.getLsbD 0) hbit0
  | 2 => exact up c rfl
  | 3 => exact down c rfl
  | 4 => exact (congrArg (·, v.getLsbD 7) BitVec.or_zero.symm).trans (up false rfl)
  | 5 => exact (congrArg (fun t => ((v >>> 1) ||| t, v.getLsbD 0)) (and_topBit v)).trans (down (v.getLsbD 7) hbit7)
  | 6 => exact up true rfl
  | 7 => exact (congrArg (·, v.getLsbD 0) BitVec.or_zero.symm).trans (down false rfl)

/-- 46_rotate_bit.md R394: the rows of `rot[y]` differ in the operand alone. -/
theorem exec_rotRows (y : Nat) (r : Reg8) (d : Byte) :
    exec (rotRegRow y r) = perform 2 2 8 (fun t => t.rotReg (rotOp y) r) ∧
    exec (rotMemRow y) = perform 2 2 15 (fun t => t.rotMem (rotOp y) t.hl) ∧
    exec (rotMemIxRow y d) = performIndexed .ix 4 23 (fun t => t.rotMem (rotOp y) (t.indexed d)) ∧
    exec (rotMemIxCopyRow y d r) = performIndexed .ix 4 23 (fun t => t.rotMemCopy (rotOp y) (t.indexed d) r) ∧
    exec (rotMemIyRow y d) = performIndexed .iy 4 23 (fun t => t.rotMem (rotOp y) (t.indexed d)) ∧
    exec (rotMemIyCopyRow y d r) = performIndexed .iy 4 23 (fun t => t.rotMemCopy (rotOp y) (t.indexed d) r) := by
  match y with
  | 0 | 1 | 2 | 3 | 4 | 5 | 6 | _ + 7 => exact ⟨rfl, rfl, rfl, rfl, rfl, rfl⟩

/-! ### The flags -/

/-- 40_engine.md R149. -/
theorem rotFlags_eq (res : Byte) (c : Bool) : rotFlags res c = parityFlags res false false c := by
  simp only [rotFlags, parityFlags_eq, flagIf_false, BitVec.or_zero]

/-- 46_rotate_bit.md R390 to R393. -/
theorem rotAFlags_eq (f a : Byte) (c : Bool) :
    rotAFlags f a c =
      flagByte (f.getLsbD 7) (f.getLsbD 6) (a.getLsbD 5) false (a.getLsbD 3) (f.getLsbD 2) false c := by
  obtain ⟨-, h53, -⟩ := flags_masked a
  obtain ⟨-, -, hkept⟩ := flags_masked f
  simp only [rotAFlags, h53, hkept, flagByte_eq, flagIf_false, BitVec.or_zero]
  ac_rfl

/-- 46_rotate_bit.md R405 to R407: F.5 and F.3 from `x`. -/
theorem bitFlags_eq (f v : Byte) (b : Fin 8) (x : Byte) :
    bitFlags f v b x =
      flagByte (decide (b.val = 7) && v.getLsbD b) (!v.getLsbD b) (x.getLsbD 5) true (x.getLsbD 3) (!v.getLsbD b) false
        (f.getLsbD 0) := by
  obtain ⟨-, h53, -⟩ := flags_masked x
  have hh : flagIf true flagH = flagH := rfl
  simp only [bitFlags, and_flagC, h53, flagIf_or, flagByte_eq, hh]
  ac_rfl

/-- 46_rotate_bit.md R403, R404: C is kept. -/
theorem inFlags_eq (f v : Byte) : inFlags f v = parityFlags v false false (f.getLsbD 0) := by
  simp only [inFlags, parityFlags_eq, and_flagC, flagIf_false, BitVec.or_zero]
  exact BitVec.or_comm ..

/-! ### The operand forms -/

/-- An accumulator rotate (46_rotate_bit.md R390 to R393). -/
theorem perform_rotA (y : Fin 8) (s : State) :
    let f := s.main.f
    let o := rotResult y s.main.a (f.getLsbD 0)
    perform 1 1 4 (fun t => t.rotA (rotOp y)) s =
      .next ((s.after 1 1 4).withAF
        (o.1, flagByte (f.getLsbD 7) (f.getLsbD 6) (o.1.getLsbD 5) false (o.1.getLsbD 3) (f.getLsbD 2) false o.2)) := by
  intro f o
  simp only [o, ← rotAFlags_eq, ← rotOp_eq, ← retire_fetched]
  rfl

theorem State.rotReg_eq (t : State) (y : Fin 8) (r : Reg8) :
    let o := rotResult y (t.reg r) t.carry
    t.rotReg (rotOp y) r = (t.setReg r o.1).setF (parityFlags o.1 false false o.2) := by
  rw [State.rotReg, rotFlags_eq, rotOp_eq]

theorem State.rotMem_eq (t : State) (y : Fin 8) (a : Word) :
    let o := rotResult y (t.readByte a) t.carry
    t.rotMem (rotOp y) a = (t.writeByte a o.1).setF (parityFlags o.1 false false o.2) := by
  rw [State.rotMem, rotFlags_eq, rotOp_eq]

theorem State.rotMemCopy_eq (t : State) (y : Fin 8) (a : Word) (r : Reg8) :
    let o := rotResult y (t.readByte a) t.carry
    t.rotMemCopy (rotOp y) a r = ((t.writeByte a o.1).setF (parityFlags o.1 false false o.2)).setReg r o.1 := by
  rw [State.rotMemCopy, State.rotMem_eq, rotOp_eq]

/-- 46_rotate_bit.md R406: F.5 and F.3 are drawn (92_eei_decisions.md D19). -/
theorem State.bitFlags_drawIntoF (t : State) (v : Byte) (b : Fin 8) :
    let x := Config.freeFlags t.draws
    (t.setF (bitFlags t.main.f v b 0)).drawIntoF (flag5 ||| flag3) =
      { t with draws := t.draws + 1 }.withF (bitFlags t.main.f v b x) := by
  intro x
  rw [bitFlags_eq, bitFlags_eq, ← replaceBits_flags53 _ _ false true false _ _ _ x]
  rfl

/-! ### RES and SET -/

theorem bitMask_eq (b : Fin 8) : 1#8 <<< b.val = BitVec.ofNat 8 (2 ^ b.val) :=
  BitVec.eq_of_toNat_eq (by simp [Nat.shiftLeft_eq])

theorem toNat_and_bitMask (b : Fin 8) (v : Byte) :
    (v &&& (1#8 <<< b.val)).toNat = v.toNat / 2 ^ b.val % 2 * 2 ^ b.val := by
  have hlt : 2 ^ b.val < 2 ^ 8 := Nat.pow_lt_pow_right one_lt_two b.isLt
  rw [bitMask_eq, BitVec.toNat_and, BitVec.toNat_ofNat, Nat.mod_eq_of_lt hlt, Nat.and_two_pow, Nat.toNat_testBit]

/-- 46_rotate_bit.md R408. -/
theorem res8_and_bitMask (b : Fin 8) (v : Byte) : res8 b v &&& (1#8 <<< b.val) = 0#8 := by
  rw [res8, BitVec.and_assoc, BitVec.not_and_self]
  exact BitVec.and_zero

/-- A byte is the sum of its bit `b` and of its other bits, which do not overlap. -/
theorem toNat_res8 (b : Fin 8) (v : Byte) : (res8 b v).toNat = v.toNat - v.toNat / 2 ^ b.val % 2 * 2 ^ b.val := by
  have hdisjoint : res8 b v &&& (v &&& (1#8 <<< b.val)) = 0#8 := by
    rw [BitVec.and_comm v, ← BitVec.and_assoc, res8_and_bitMask, BitVec.zero_and]
  have hwhole : res8 b v ||| (v &&& (1#8 <<< b.val)) = v := by
    rw [res8, ← BitVec.and_or_distrib_left, BitVec.not_or_self, BitVec.and_allOnes]
  have hsum := BitVec.toNat_add_of_and_eq_zero hdisjoint
  rw [BitVec.add_eq_or_of_and_eq_zero _ _ hdisjoint, hwhole, toNat_and_bitMask] at hsum
  omega

theorem bitSet_eq (b : Fin 8) (v : Byte) (x : Bool) : bitSet v b x = res8 b v + BitVec.ofNat 8 (x.toNat * 2 ^ b.val) := by
  rw [bitSet, ← toNat_res8, BitVec.ofNat_add, BitVec.ofNat_toNat, BitVec.setWidth_eq]

theorem res8_eq (b : Fin 8) (v : Byte) : res8 b v = bitSet v b false := by
  rw [bitSet_eq, Bool.toNat_false, zero_mul]
  exact (BitVec.add_zero _).symm

/-- 46_rotate_bit.md R409. -/
theorem res8_or_bitMask (b : Fin 8) (v : Byte) : res8 b v ||| (1#8 <<< b.val) = set8 b v := by
  rw [res8, set8]
  generalize 1#8 <<< b.val = m
  ext i hi
  simp only [BitVec.getElem_or, BitVec.getElem_and, BitVec.getElem_not]
  cases m[i] <;> simp

theorem set8_eq (b : Fin 8) (v : Byte) : set8 b v = bitSet v b true := by
  rw [bitSet_eq, Bool.toNat_true, one_mul, ← bitMask_eq, BitVec.add_eq_or_of_and_eq_zero _ _ (res8_and_bitMask b v),
    res8_or_bitMask]

/-! ### The nibbles -/

theorem nibbles_toNat (v : Byte) :
    (v &&& 0xF0).toNat = v.toNat / 16 * 16 ∧ (v <<< 4).toNat = v.toNat % 16 * 16 ∧ (v >>> 4).toNat = v.toNat / 16 := by
  revert v
  decide

/-- A byte put together from its two nibbles. -/
theorem or_nibbles {x y : Byte} {h l : Nat} (hx : x.toNat = h * 16) (hy : y.toNat = l) (hl : l < 16) :
    x ||| y = BitVec.ofNat 8 (h * 16 + l) := by
  apply BitVec.eq_of_toNat_eq
  have hsum : 16 * h + l = 16 * h ||| l := Nat.two_pow_add_eq_or_of_lt (i := 4) hl h
  have hx8 := x.isLt
  rw [BitVec.toNat_or, BitVec.toNat_ofNat, hx, hy, mul_comm h, ← hsum]
  omega

/-- 46_rotate_bit.md R403, R404: the byte stored and the new A of RLD, then those of RRD. -/
theorem digitsMoved_eq (a m : Byte) :
    (m <<< 4) ||| (a &&& 0x0F) = BitVec.ofNat 8 (m.toNat % 16 * 16 + a.toNat % 16) ∧
    (a &&& 0xF0) ||| (m >>> 4) = BitVec.ofNat 8 (a.toNat / 16 * 16 + m.toNat / 16) ∧
    (a <<< 4) ||| (m >>> 4) = BitVec.ofNat 8 (a.toNat % 16 * 16 + m.toNat / 16) ∧
    (a &&& 0xF0) ||| (m &&& 0x0F) = BitVec.ofNat 8 (a.toNat / 16 * 16 + m.toNat % 16) := by
  obtain ⟨hhighA, hupA, -⟩ := nibbles_toNat a
  obtain ⟨-, hupM, hdownM⟩ := nibbles_toNat m
  have hlow (v : Byte) : v.toNat % 16 < 16 := Nat.mod_lt _ (by decide)
  have hdown : m.toNat / 16 < 16 := Nat.div_lt_of_lt_mul m.isLt
  exact ⟨or_nibbles hupM (toNat_lowDigit a) (hlow a), or_nibbles hhighA hdownM hdown, or_nibbles hupA hdownM hdown,
    or_nibbles hhighA (toNat_lowDigit m) (hlow m)⟩

end Sys2Proof.Machine

namespace Sys2Proof
open Machine

/-- Settles O47: each row is `rot[y]` of A under the flags of `rotAFlags_eq`. -/
theorem accumulatorRotates : Obligations.AccumulatorRotates := fun s =>
  ⟨perform_rotA 0 s, perform_rotA 1 s, perform_rotA 2 s, perform_rotA 3 s⟩

/-- Settles O48: each row is `rot[y]` of its operand, which reads after the fetch as it reads before. -/
theorem rotatesAndShifts : Obligations.RotatesAndShifts := by
  intro s y r d o flags mem ix iy
  obtain ⟨hreg, hmem, hix, hixCopy, hiy, hiyCopy⟩ := exec_rotRows y r d
  simp only [hreg, hmem, hix, hixCopy, hiy, hiyCopy, perform_eq, performIndexed_eq, State.rotReg_eq, State.rotMem_eq,
    State.rotMemCopy_eq]
  simp [State.indexed_eq, State.carry, ← State.setF_eq, o, flags, mem, ix, iy]

/-- Settles O49: the flags by `bitFlags_eq`, of an operand that reads after the fetch as it reads before; bits 13 and 11 of an
address are bits 5 and 3 of its high byte, and the draw of BIT b,(HL) is `bitFlags_drawIntoF`. -/
theorem testBit : Obligations.TestBit := by
  intro s b r d z flags v x ix iy
  have hhi (w : Word) : w.getLsbD 13 = w.hi.getLsbD 5 ∧ w.getLsbD 11 = w.hi.getLsbD 3 :=
    ⟨(Word.getLsbD_hi w (by decide : 5 < 8)).symm, (Word.getLsbD_hi w (by decide : 3 < 8)).symm⟩
  simp only [flags, hhi, ← bitFlags_eq, ← retire_fetched, ix, iy, displaced_eq]
  refine ⟨rfl, ?_, rfl, rfl⟩
  rw [exec, execBitMemHl, perform_eq, State.bitFlags_drawIntoF]
  rfl

/-- Settles O50: RES and SET by `res8_eq` and `set8_eq`, of an operand that reads after the fetch as it reads before; F is not
written. -/
theorem resetAndSetBit : Obligations.ResetAndSetBit := by
  intro s b r d mem copy ix iy
  simp only [exec, execResR, execSetR, execResMemHl, execSetMemHl, execResMemIx, execSetMemIx, execResMemIxR, execSetMemIxR,
    execResMemIy, execSetMemIy, execResMemIyR, execSetMemIyR, perform_eq, performIndexed_eq, State.mapReg, State.mapMem,
    State.mapMemCopy, res8_eq, set8_eq]
  simp [State.indexed_eq, mem, copy, ix, iy]

/-- Settles O51: both bytes by `digitsMoved_eq`, the flags as those of IN; the write and the end commute. -/
theorem decimalRotates : Obligations.DecimalRotates := by
  intro s a m done
  obtain ⟨hstoredRld, haccRld, hstoredRrd, haccRrd⟩ := digitsMoved_eq s.main.a (s.readByte s.hl)
  simp only [done, a, m, ← hstoredRld, ← haccRld, ← hstoredRrd, ← haccRrd, ← inFlags_eq, ← retire_fetched]
  exact ⟨rfl, rfl⟩

end Sys2Proof
end

section
/-! The jumps, calls and returns (47_control.md): a condition as a digit of F, the two ends of a conditional instruction as one
equation, and the pushed PC as its two bytes. -/

namespace Sys2Proof.Machine

/-! ### Conditions -/

/-- A flag of F is a binary digit of its value. -/
theorem getLsbD_eq_digit (f : Byte) (k : Nat) :
    f.getLsbD k = (f.toNat / 2 ^ k % 2 == 1) ∧ (!f.getLsbD k) = (f.toNat / 2 ^ k % 2 == 0) := by
  have hset : f.getLsbD k = (f.toNat / 2 ^ k % 2 == 1) := by
    rw [BitVec.getLsbD, Nat.testBit_eq_decide_div_mod_eq, Bool.beq_eq_decide_eq]
  refine ⟨hset, ?_⟩
  rw [hset]
  obtain h | h := Nat.mod_two_eq_zero_or_one (f.toNat / 2 ^ k) <;> simp [h]

/-- 47_control.md R440. -/
theorem State.cond_eq (s : State) (cc : Cond) : s.cond cc = condOf cc s.main.f := by
  obtain ⟨hc, hnc⟩ := getLsbD_eq_digit s.main.f 0
  obtain ⟨hpe, hpo⟩ := getLsbD_eq_digit s.main.f 2
  obtain ⟨hz, hnz⟩ := getLsbD_eq_digit s.main.f 6
  obtain ⟨hm, hp⟩ := getLsbD_eq_digit s.main.f 7
  have htop : s.main.f.toNat / 2 ^ 7 % 2 = s.main.f.toNat / 2 ^ 7 := by
    have := s.main.f.isLt
    omega
  rw [pow_zero, Nat.div_one] at hc hnc
  rw [htop] at hm hp
  cases cc
  exacts [hnz, hz, hnc, hc, hpo, hpe, hp, hm]

theorem branch_eq (taken : Bool) (costTaken costNot : Nat) (effect : State → State) (u : State) :
    branch taken costTaken costNot effect u =
      .next (if taken then (effect u).retire costTaken else u.retire costNot) := by
  cases taken <;> rfl

/-! ### The jumps' and calls' targets -/

/-- 47_control.md R443: the displacement counts from the address after the instruction. -/
theorem State.jumpRelative_eq (t : State) (e : Byte) : t.jumpRelative e = { t with pc := displaced t.pc e } := by
  rw [displaced_eq]
  rfl

/-- 47_control.md R447, in the terms of Safety.lean. -/
theorem State.callTo_halves (t : State) (v : Word) :
    t.callTo v =
      { (t.writeByte (t.sp - 1) (halfOf .high t.pc)).writeByte (t.sp - 2) (halfOf .low t.pc) with
        sp := t.sp - 2, pc := v } := by
  rw [State.callTo, State.push16_halves]

end Sys2Proof.Machine

namespace Sys2Proof
open Machine

/-- Settles O52: a condition by `cond_eq`, a relative jump by `jumpRelative_eq`; DJNZ branches on the B it has written. -/
theorem jumps : Obligations.Jumps := by
  intro s cc nn e taken b
  simp only [exec, execJpNn, execJpCcNn, execJr, execJrCc, execJpHl, execJpIx, execJpIy, execDjnz, perform_eq,
    performIndexed_eq, branch_eq, State.cond_eq, State.jumpRelative_eq, bne_iff_ne, ne_eq, ite_not, ← retire_fetched]
  exact ⟨rfl, rfl, rfl, rfl, rfl, rfl, rfl, rfl⟩

/-- Settles O53: a call by `callTo_halves`, a condition by `cond_eq`; a return reads the stack, which the fetch leaves. -/
theorem callsAndReturns : Obligations.CallsAndReturns := by
  intro s cc nn y taken call back
  simp only [exec, execCallNn, execCallCcNn, execRst, execRet, execRetCc, execReti, execRetn, perform_eq, branch_eq,
    State.cond_eq, State.callTo_halves, mul_comm y.val, call, back, ← retire_fetched]
  exact ⟨rfl, rfl, rfl, rfl, rfl, rfl, rfl⟩

end Sys2Proof
end

section
/-! The port and CPU-control instructions (48_io_cpu_control.md): a port read by what the port answers and what the read leaves
of the state. -/

namespace Sys2Proof.Machine

/-- 20_memory.md R63: a port read that the host has no byte ready for answers a free byte (log entry 3). -/
theorem State.ioRead_free {s : State} (h : s.portInput = []) (p : Word) :
    s.ioRead p =
      (Config.freePortByte s.draws,
        { s with
          draws := s.draws + 1
          events := s.events ++ [HookEvent.ioRead p (Config.freePortByte s.draws)] }) := by
  rw [State.ioRead, h]

/-- In an instruction run from `s`, a port read answers `v` and leaves `read t p` of the state `t` it finds; it writes no field
that the end of an instruction writes. -/
structure ReadsPort (s : State) (v : Byte) (read : State → Word → State) : Prop where
  fetched : ∀ len rinc p, (s.fetched len rinc).ioRead p = (v, read (s.fetched len rinc) p)
  retire : ∀ t p cost, (read t p).retire cost = read (t.retire cost) p
  rewind : ∀ t p, (read t p).rewindBlock = read t.rewindBlock p

section
variable {s : State} {v : Byte} {read : State → Word → State}

/-- 48_io_cpu_control.md R480 to R482, whatever the port answers. -/
theorem ReadsPort.portInputsGive (h : ReadsPort s v read) : PortInputsGive s v read := by
  intro n r flags
  simp only [exec, execInAN, execInRC, execInFC, perform_eq, State.fetched_pairs, h.fetched, inFlags_eq, State.retire_setA,
    State.retire_setReg, State.retire_setF, h.retire, retire_fetched]
  exact ⟨rfl, rfl, rfl⟩

/-- 43_block.md R290 to R293, whatever the port answers. -/
theorem ReadsPort.blockInputsGive (h : ReadsPort s v read) : BlockInputsGive s v read :=
  have hread := h.fetched 2 2 s.bc
  Machine.blockInputsGive (congrArg Prod.fst hread)
    ⟨congrArg Prod.snd hread, fun t => h.retire t s.bc, fun t => h.rewind t s.bc⟩

end

theorem readsPort_prepared {s : State} {v : Byte} {l : List Byte} (h : s.portInput = v :: l) :
    ReadsPort s v fun t p => { t with portInput := l, events := s.events ++ [HookEvent.ioRead p v] } where
  fetched len rinc p := State.ioRead_prepared (s := s.fetched len rinc) h p
  retire _ _ _ := rfl
  rewind _ _ := rfl

theorem readsPort_free {s : State} (h : s.portInput = []) :
    ReadsPort s (Config.freePortByte s.draws) fun t p =>
      { t with
        draws := s.draws + 1
        events := s.events ++ [HookEvent.ioRead p (Config.freePortByte s.draws)] } where
  fetched len rinc p := State.ioRead_free (s := s.fetched len rinc) h p
  retire _ _ _ := rfl
  rewind _ _ := rfl

end Sys2Proof.Machine

namespace Sys2Proof
open Machine

/-- Settles O54: the prepared byte is what the port answers. -/
theorem portInput : Obligations.PortInput := fun _ _ _ h => (readsPort_prepared h).portInputsGive

/-- Settles O55: the same reads answer a free byte. -/
theorem portInputFree : Obligations.PortInputFree := fun _ h =>
  ⟨(readsPort_free h).portInputsGive, (readsPort_free h).blockInputsGive⟩

/-- Settles O56: each row records one event between the fetch and the end. -/
theorem portOutput : Obligations.PortOutput := by
  intro s n r write
  simp only [exec, execOutNA, execOutCR, execOutC0, perform_eq, State.retire_ioWrite, retire_fetched]
  exact ⟨rfl, rfl, rfl⟩

/-- Settles O57: each row writes its named fields between the fetch and the end, HALT by `exec_halt`. -/
theorem cpuControl : Obligations.CpuControl := by
  intro s y k b undef
  refine ⟨?_, exec_halt s, ?_⟩
  · rw [exec, execNop, perform_eq, id, retire_fetched]
  · simp only [undef, ← retire_fetched]
    exact ⟨rfl, rfl, rfl, rfl, rfl, rfl, rfl, rfl, rfl⟩

end Sys2Proof
end

section
/-! The acceptance of an interrupt (60_exceptions.md R525 to R531) and what no instruction does (R520, R522, R536, R539). -/

namespace Sys2Proof.Machine

theorem State.vectorAddress_eq (s : State) : s.vectorAddress = BitVec.ofNat 16 (s.i.toNat * 256 + 255) := by
  have hlow : (0xFF : Byte).toNat = 255 := rfl
  rw [← hlow, ← Word.toNat_mk, BitVec.ofNat_toNat, BitVec.setWidth_eq, State.vectorAddress]

/-- 60_exceptions.md R530. -/
theorem acceptCost_eq (m : IntMode) : acceptCost m = if m = .im2 then 19 else 13 := by cases m <;> rfl

/-- 60_exceptions.md R525 to R529: the two stores of the push, and PC from the mode, the vector read after the stores. -/
theorem State.takeInterrupt_eq (s : State) :
    let m := (s.writeByte (s.sp - 1) s.pc.hi).writeByte (s.sp - 2) s.pc.lo
    s.takeInterrupt =
      { m with
        halted := false, sp := s.sp - 2, iff1 := false, iff2 := false
        pc := if s.im = .im2 then m.readWord s.vectorAddress else 0x0038 } := by
  intro m
  have hpush : ({ s with halted := false } : State).push16 s.pc = { m with halted := false, sp := s.sp - 2 } :=
    State.push16_eq _ _
  have him : m.im = s.im := rfl
  simp only [State.takeInterrupt, hpush, him]
  cases s.im <;> rfl

theorem State.accept_disabled {s : State} (h : s.iff1 = false) : s.accept = (s, 0) := by
  rw [State.accept, h]
  rfl

theorem State.accept_enabled {s : State} (h : s.iff1 = true) : s.accept = (s.takeInterrupt, acceptCost s.im) := if_pos h

/-- 60_exceptions.md R531. -/
theorem deliverInterrupt_eq (s : State) :
    deliverInterrupt s = { s.accept.1 with iCount := s.iCount - BitVec.ofNat 32 s.accept.2 } := by
  obtain ⟨-, hCount, -⟩ := s.accept_frame
  rw [deliverInterrupt, hCount]

end Sys2Proof.Machine

namespace Sys2Proof
open Machine

/-- Settles O5: by `exec_goes` and, for a step, the decoder's answer being well-formed. -/
theorem everyStepGoes : Obligations.EveryStepGoes := ⟨fun _ s hw => exec_goes hw s, step_goes⟩

/-- Settles O14: the disabled case leaves the state and costs 0; the enabled one is `takeInterrupt_eq` at the mode's cost. -/
theorem acceptance : Obligations.Acceptance := by
  intro s
  constructor
  · intro h
    have haccept := State.accept_disabled h
    refine ⟨haccept, ?_⟩
    rw [deliverInterrupt_eq, haccept]
    exact congrArg (fun n => { s with iCount := n }) (BitVec.sub_zero s.iCount)
  · intro h m v
    have haccept := State.accept_enabled h
    constructor
    · rw [haccept, State.takeInterrupt_eq, acceptCost_eq, State.vectorAddress_eq]
      rfl
    · have hcost : BitVec.ofNat 32 s.accept.2 = if s.im = .im2 then 19 else 13 := by
        rw [haccept, acceptCost_eq]
        exact apply_ite (BitVec.ofNat 32) _ _ _
      rw [deliverInterrupt_eq, hcost]

/-- Settles O21: these are the fields of the fixed part, which `Reaches` keeps. -/
theorem resetOnlyFields : Obligations.ResetOnlyFields := by
  intro i s t h
  obtain ⟨A, hooks, hr⟩ := exec_reaches_some h
  have keeps {α : Type} (field : FixedPart → α) : field t.outer.fixed = field s.outer.fixed := congrArg field hr.fixed
  exact ⟨keeps (·.iPeriod), keeps (·.iIntTime), keeps (·.debugTrapAddr), keeps (·.breakEnable), keeps (·.iRequest),
    keeps (·.readOnly), keeps (·.tapeActive), keeps (·.variant)⟩

end Sys2Proof
end

section
/-! Reset (70_reset_and_hazards.md R570). -/

namespace Sys2Proof.Machine

/-- Each register that a code names is 0 in the zero set. -/
theorem RegSet.zero_get (r : Reg8) : RegSet.zero.get r = 0 := by cases r <;> rfl

end Sys2Proof.Machine

namespace Sys2Proof
open Machine

/-- Settles O7: nothing is listed, so the form is `reset_wf`. -/
theorem resetInv : Obligations.ResetInv := ⟨reset_wf, rfl, rfl⟩

/-- Settles O9: the registers by `RegSet.zero_get`, every other field by the record that `resetWith` is. -/
theorem resetFields : Obligations.ResetFields := by
  intro p s t
  refine ⟨RegSet.zero_get, ?_⟩
  and_intros <;> rfl

end Sys2Proof
end
